-- ==== Sys2Proof/Word.lean ====
section
/-! DEFINITION. The two word types of the SM83: the byte (R6 "byte size 8 bits") and the 16-bit word, which is also the
type of an address (R60: one address space of 65536 byte addresses). -/

namespace Sys2Proof

/-- An 8-bit value (u8 of R8). -/
abbrev Byte := BitVec 8

/-- A 16-bit value (u16 of R8): SP, PC, a register pair, a bus address. -/
abbrev Word := BitVec 16

end Sys2Proof
end

