-- ==== Sys2Proof/Machine/Bits.lean ====
section
/-! DEFINITION. Byte order, sign extension and bit access: R8's notation and R62's little-endian order, decided here once. -/

namespace Sys2Proof.Machine

/-- `v[7:0]` (R8). -/
def lowByte (w : Word) : Byte := w.extractLsb' 0 8

/-- `v[15:8]` (R8). -/
def highByte (w : Word) : Byte := w.extractLsb' 8 8

/-- `hi :: lo` (R8): the first byte is the high part. -/
def joinBytes (hi lo : Byte) : Word := hi ++ lo

/-- `sext_16` of R8: the byte read as two's complement, as a u16. -/
def signExtend16 (e : Byte) : Word := e.signExtend 16

/-- The high-page address `0xFF00 + n` of LDH (R143). -/
def highPage (n : Byte) : Word := joinBytes 0xFF n

/-- `v[i]` (R8). -/
def bitOf (v : Byte) (i : Nat) : Bool := v.getLsbD i

/-- A Boolean as the number R8 gives it: true = 1, false = 0. -/
def bitNat (b : Bool) : Nat := if b then 1 else 0

end Sys2Proof.Machine
end

