-- ==== Sys2Proof/Config.lean ====
section
/-! DEFINITION. The named parameters of R7 (configuration, not state): what is fixed for one machine. A `Config` is plain
data; the machine carries the one it was built with in a field of State (assumption 1), so a statement about every state is
a statement about every value of every parameter. -/

namespace Sys2Proof

/-- A byte array held sparsely: (offset, byte) pairs, offsets strictly rising, no pair whose byte is what an unlisted
offset reads as (`Machine.Memory.background`). The operations are in Machine/Memory.lean. -/
abbrev Memory := List Host.Cell

/-- RESET_PROFILE (R7, R58, R59). -/
inductive ResetProfile where
  | bootRom
  | postBoot
deriving DecidableEq, Repr

/-- STOP_MODE (R7, R312): what opcode 0x10 does. -/
inductive StopMode where
  | nop2
  | fatal
deriving DecidableEq, Repr

/-- SPREL_FLAGS (R7, R254): the flag boundaries of ADD SP,e and LD HL,SP+e. -/
inductive SprelFlags where
  | nibbleByte
  | byteWord
deriving DecidableEq, Repr

/-- SHADE (R7, R425): the final colour of palette outputs 0 to 3. -/
structure Shades where
  shade0 : BitVec 32
  shade1 : BitVec 32
  shade2 : BitVec 32
  shade3 : BitVec 32
deriving DecidableEq, Repr

/-- The parameters of R7, but for KEY_INPUT, which is the host's input and stands in State as a queue. -/
structure Config where
  /-- ROM: the cartridge image, by offset. -/
  rom : Memory
  /-- rom_length, at least 1. -/
  romLength : Nat
  /-- BOOT_ROM: the 256 bytes of the overlay, by offset. -/
  bootRom : Memory
  /-- RESET_PROFILE. -/
  resetProfile : ResetProfile
  /-- CART_RAM_BYTES, positive. -/
  cartRamBytes : Nat
  /-- CART_RAM_INIT: the battery file at cartridge construction. -/
  cartRamInit : Memory
  /-- SHADE. -/
  shade : Shades
  /-- EI_DELAY: true for 1, false for 0. -/
  eiDelay : Bool
  /-- STOP_MODE. -/
  stopMode : StopMode
  /-- HALT_IDLE_CYCLES, positive. -/
  haltIdleCycles : Nat
  /-- SPREL_FLAGS. -/
  sprelFlags : SprelFlags
  /-- MBC1_GATE_FULL_BYTE. -/
  mbc1GateFullByte : Bool
deriving DecidableEq, Repr

/-- The free value behind SHADE, which R7 leaves uninterpreted ("none (uninterpreted)"): colour k of the machine that is
switched on. It has no body, so no proof can rest on a value of it (assumption 3). -/
opaque Config.freeShade : Nat → BitVec 32

/-- The free value behind a window row past 255, for which R421 gives no tile index: the index taken there at cycle `now` for the
map coordinates (mx, my). It has no body, so no proof can rest on a value of it (assumption 29). -/
opaque Config.freeTile (now mx my : Nat) : Byte

/-- The defaults of R7. ROM and BOOT_ROM, which R7 says must be supplied, are blank images here (assumption 2). -/
def Config.initial : Config where
  rom := []
  romLength := 0x8000
  bootRom := []
  resetProfile := .bootRom
  cartRamBytes := 0x2000
  cartRamInit := []
  shade := ⟨Config.freeShade 0, Config.freeShade 1, Config.freeShade 2, Config.freeShade 3⟩
  eiDelay := false
  stopMode := .nop2
  haltIdleCycles := 4
  sprelFlags := .nibbleByte
  mbc1GateFullByte := true

end Sys2Proof
end

