-- ==== Sys2Proof/Machine/State.lean ====
section
/-! DEFINITION. The machine's state as plain data (10_state.md), the reasons a step can stop, and the state after reset
(R58, the default profile BootRom). Nothing here computes: the operations are in the other files of this folder. -/

namespace Sys2Proof.Machine

/-- The `fatal` record of R29: the offending opcode byte and the address it was read from. -/
structure FatalRecord where
  opcode : Byte
  addr : Word
deriving DecidableEq, Repr

/-- Why a step stops. -/
inductive Fault where
  /-- Raised by `step` in a state whose `fatal` record is present: "the machine has no further step" (R29, R360). It is the
  spec's own stop, so neither safe nor unsafe beyond the spec. -/
  | fatalDecode (opcode : Byte) (addr : Word)
  /-- Raised by `step` when a push into the full scheduler was attempted (R344: the model fault SchedulerOverflow). Safe:
  the machine stops where the document would drop the event silently. -/
  | schedulerOverflow
  /-- Raised by `step` when the Panic sentinel is due, or an event at or after its time would have to be pushed (R343: the
  model fault SchedulerPanic). Safe: the machine stops. -/
  | schedulerPanic
deriving DecidableEq, Repr

/-- Why the model has no answer. -/
inductive Refusal where
  /-- Raised by a refused arm of `exec` for an instruction without a meaning; no arm of this model is refused. Safe. -/
  | notModelled (mnemonic : String)
  /-- Raised at power-on, and so by the host actions Reset, Stop and LoadROM, for a cartridge-type byte outside the table
  of R101 ("refused: the model has no cartridge for it"). Safe. -/
  | unknownCartridge (typeByte : Byte)
  /-- Raised at power-on, and so by the host actions Reset, Stop and LoadROM, for an empty image
  (93_implementation_defined.md U6: "an empty image is refused"). Safe. -/
  | emptyRom
deriving DecidableEq, Repr

/-- The two model faults of the scheduler, latched by a push inside a bus write until `step` reports them (assumption 8). -/
inductive ModelFault where
  | schedulerOverflow
  | schedulerPanic
deriving DecidableEq, Repr

/-- The PPU mode of R52. -/
inductive PpuMode where
  | hBlank
  | vBlank
  | oamScan
  | pixelTransfer
deriving DecidableEq, Repr

/-- `event_kind` of R53. -/
inductive EventKind where
  | none
  | apu
  | ppu
  | timers
  | panic
deriving DecidableEq, Repr

/-- A scheduler entry of R53: `trigger_time` and `event_kind`. -/
structure Event where
  time : Nat
  kind : EventKind
deriving DecidableEq, Repr

/-- Panic's time: "the maximum representable time" of a u64 (R53, R340, R343). -/
def panicTime : Nat := 2 ^ 64 - 1

/-- The Panic sentinel of R340 and R343. -/
def panicSentinel : Event := ⟨panicTime, .panic⟩

/-- MBC1 registers (R55, R112). `mode` true is 1. -/
structure Mbc1 where
  ramEnable : Bool
  bank1 : BitVec 5
  bank2 : BitVec 2
  mode : Bool
deriving DecidableEq, Repr

/-- MBC2 registers (R55, R118). -/
structure Mbc2 where
  ramEnable : Bool
  romBank : BitVec 8
deriving DecidableEq, Repr

/-- MBC3 registers (R55, R122). -/
structure Mbc3 where
  ramEnable : Bool
  romBank : BitVec 7
  ramBank : BitVec 2
deriving DecidableEq, Repr

/-- MBC5 registers (R55, R126). -/
structure Mbc5 where
  ramEnable : Bool
  romBank : BitVec 9
  ramBank : BitVec 4
deriving DecidableEq, Repr

/-- The cartridge variant with its bank registers: "a closed tagged-variant (sum type)" of five (R100). -/
inductive Cartridge where
  | noMbc
  | mbc1 (r : Mbc1)
  | mbc2 (r : Mbc2)
  | mbc3 (r : Mbc3)
  | mbc5 (r : Mbc5)
deriving DecidableEq, Repr

/-- The eight buttons of R56. -/
inductive Button where
  | right
  | left
  | up
  | down
  | a
  | b
  | select
  | start
deriving DecidableEq, Repr

/-- `pressed[b]` of R56, one Boolean for each button. -/
structure Buttons where
  right : Bool
  left : Bool
  up : Bool
  down : Bool
  a : Bool
  b : Bool
  select : Bool
  start : Bool
deriving DecidableEq, Repr

/-- A host key event of R381: a button becomes pressed (true) or released (false). -/
structure KeyEvent where
  button : Button
  pressed : Bool
deriving DecidableEq, Repr

/-- The state of the whole machine (10_state.md). The I/O registers with an address (IF, DIV, TIMA, TMA, TAC, P1, SB, SC,
LCDC, STAT, SCY, SCX, LY, LYC, DMA, BGP, OBP0, OBP1, WY, WX, BOOT, the sound registers) live in `io` at their offset from
0xFF00, as R76 places them; Machine/Memory.lean names each. -/
@[ext]
structure State where
  /-- The general registers (R20). Bits 3:0 of `f` are always 0 (R22): kept by the operations, stated in Safety.lean. -/
  a : Byte
  f : Byte
  b : Byte
  c : Byte
  d : Byte
  e : Byte
  h : Byte
  l : Byte
  /-- The stack pointer (R25). -/
  sp : Word
  /-- The program counter (R26). -/
  pc : Word
  /-- The interrupt master enable (R27). -/
  ime : Bool
  /-- The halt state (R28). -/
  halted : Bool
  /-- The terminal decode error (R29). -/
  fatal : Option FatalRecord
  /-- EI's pending enable (R30); nothing reads or writes it when EI_DELAY is 0 (assumption 12). -/
  eiPending : Bool
  /-- The global cycle counter (R31), an unbounded natural as R31 allows. -/
  now : Nat
  /-- `cycles` (R13, R332): the cost of the CPU step, which `CpuStep` returns (assumption 5). -/
  cycles : Nat
  /-- Cycles toward the next DIV increment (R51). -/
  divSub : Nat
  /-- Cycles toward the next TIMA increment (R51). -/
  timaSub : Nat
  /-- Work RAM, 8192 bytes (R54). -/
  wram : Memory
  /-- High RAM, 127 bytes (R54). -/
  hram : Memory
  /-- The I/O array, 128 bytes (R50, R54). -/
  io : Memory
  /-- Video RAM, 8192 bytes (R54). -/
  vram : Memory
  /-- Object attribute memory, 160 bytes (R54). -/
  oam : Memory
  /-- The interrupt-enable register IE (R34, R54). -/
  ie : Byte
  /-- Whether the boot ROM overlay is mapped (R54). -/
  bootActive : Bool
  /-- The cartridge variant and its bank registers (R55). -/
  cart : Cartridge
  /-- The cartridge RAM buffer of CART_RAM_BYTES bytes (R55). -/
  cartRam : Memory
  /-- The display controller's mode (R52). -/
  mode : PpuMode
  /-- The window-line counter (R52, R432). -/
  wlc : Nat
  /-- The background colour-index shadow buffer of the line last rendered (R52). -/
  bgidx : List (BitVec 2)
  /-- The output pixel buffer: 144 rows of 160 colours (R52). -/
  fb : List (List (BitVec 32))
  /-- The scheduler's entry list (R53). -/
  entries : List Event
  /-- The model's own field: a scheduler fault raised inside a bus write, not yet reported (assumption 8). -/
  modelFault : Option ModelFault
  /-- The joypad latch (R56). -/
  pressed : Buttons
  /-- KEY_INPUT (R7, R381): the host's key event of this machine step and of the steps after it; past the end, none
  (assumption 4). -/
  keyInput : List (Option KeyEvent)
  /-- The parameters of R7. No step changes them. -/
  cfg : Config
deriving DecidableEq, Repr

/-- A step's or a meaning's answer. -/
abbrev Result := Host.Outcome State Fault Refusal

/-- One row of `fb` with every pixel the same colour. -/
def blankRow (colour : BitVec 32) : List (BitVec 32) := List.replicate 160 colour

/-- `fb` with every pixel the same colour (R58: "every pixel SHADE[0]"). -/
def blankFrame (colour : BitVec 32) : List (List (BitVec 32)) := List.replicate 144 (blankRow colour)

/-- `bgidx` all zero (92_eei_decisions.md D44). -/
def blankIndices : List (BitVec 2) := List.replicate 160 0

/-- No button pressed (R58). -/
def noButtons : Buttons := ⟨false, false, false, false, false, false, false, false⟩

/-- The state after reset under RESET_PROFILE = BootRom, the default (R58): every register and every byte 0, execution
from address 0 in the boot overlay, the display off. The cartridge is NoMBC, as the header byte 0x147 of the blank image
says (R101, assumption 2). `fb` follows R58's table and not D44 (DESIGN CHOICE, unsafe; assumption 28). -/
def State.reset : State where
  a := 0
  f := 0
  b := 0
  c := 0
  d := 0
  e := 0
  h := 0
  l := 0
  sp := 0x0000
  pc := 0x0000
  ime := false
  halted := false
  fatal := none
  eiPending := false
  now := 0
  cycles := 0
  divSub := 0
  timaSub := 0
  wram := []
  hram := []
  io := []
  vram := []
  oam := []
  ie := 0
  bootActive := true
  cart := .noMbc
  cartRam := Config.initial.cartRamInit
  mode := .hBlank
  wlc := 0
  bgidx := blankIndices
  fb := blankFrame Config.initial.shade.shade0
  entries := [panicSentinel]
  modelFault := none
  pressed := noButtons
  keyInput := []
  cfg := Config.initial

end Sys2Proof.Machine
end

