-- ==== Sys2Proof/Machine/Memory.lean ====
section
/-! DEFINITION. Byte arrays in canonical form, and the named bytes of the I/O array (R32). -/

namespace Sys2Proof.Machine

/-- What an unlisted offset of a byte array reads as: 0 (R58: "every byte 0x00"; for ROM and BOOT_ROM see assumption 2). -/
def Memory.background : Byte := 0

/-- The byte at offset `k`. -/
def Memory.read : Memory → Nat → Byte
  | [], _ => Memory.background
  | (j, v) :: m, k => if k = j then v else Memory.read m k

/-- Put byte `v` at offset `k`, keeping the canonical form: writing the background removes the pair. -/
def Memory.write : Memory → Nat → Byte → Memory
  | [], k, v => if v = Memory.background then [] else [(k, v)]
  | (j, w) :: m, k, v =>
    if k < j then (if v = Memory.background then (j, w) :: m else (k, v) :: (j, w) :: m)
    else if k = j then (if v = Memory.background then m else (k, v) :: m)
    else (j, w) :: Memory.write m k v

/-- Every listed offset is at least `lo` and below `size`, offsets strictly rise, and no listed byte is the background. -/
def Memory.wfFrom (size : Nat) : Nat → Memory → Bool
  | _, [] => true
  | lo, (j, v) :: m =>
    decide (lo ≤ j) && decide (j < size) && decide (v ≠ Memory.background) && Memory.wfFrom size (j + 1) m

/-- The canonical form of a byte array of `size` bytes. -/
def Memory.wf (size : Nat) (m : Memory) : Bool := Memory.wfFrom size 0 m

/-- The bytes at offsets `k`, `k + 1`, … of an array that holds `bs` from offset `k` on and the background elsewhere. -/
def Memory.ofBytesFrom (k : Nat) : List Byte → Memory
  | [] => []
  | v :: bs =>
    if v = Memory.background then Memory.ofBytesFrom (k + 1) bs else (k, v) :: Memory.ofBytesFrom (k + 1) bs

/-- The array that holds `bs`. -/
def Memory.ofBytes (bs : List Byte) : Memory := Memory.ofBytesFrom 0 bs

/-- The first `size` bytes, in order. -/
def Memory.bytes (size : Nat) (m : Memory) : List Byte := (List.range size).map (Memory.read m)

/-! Sizes (R54, R60). -/

def wramSize : Nat := 0x2000
def hramSize : Nat := 127
def ioSize : Nat := 128
def vramSize : Nat := 0x2000
def oamSize : Nat := 160
def bootRomSize : Nat := 0x100

/-! Offsets from 0xFF00 of the registers that a rule reads or writes by name (R32). -/

def offP1 : Nat := 0x00
def offDIV : Nat := 0x04
def offTIMA : Nat := 0x05
def offTMA : Nat := 0x06
def offTAC : Nat := 0x07
def offIF : Nat := 0x0F
def offLCDC : Nat := 0x40
def offSTAT : Nat := 0x41
def offSCY : Nat := 0x42
def offSCX : Nat := 0x43
def offLY : Nat := 0x44
def offLYC : Nat := 0x45
def offDMA : Nat := 0x46
def offBGP : Nat := 0x47
def offOBP0 : Nat := 0x48
def offOBP1 : Nat := 0x49
def offWY : Nat := 0x4A
def offWX : Nat := 0x4B
def offBOOT : Nat := 0x50

/-- The stored byte `io[off]`. -/
def State.ioByte (s : State) (off : Nat) : Byte := Memory.read s.io off

/-- `io[off] <- v`. -/
def State.setIo (s : State) (off : Nat) (v : Byte) : State := { s with io := Memory.write s.io off v }

/-- IF (R33). -/
def State.ifReg (s : State) : Byte := s.ioByte offIF

/-- LCDC (R41). -/
def State.lcdc (s : State) : Byte := s.ioByte offLCDC

/-- The stored bits of STAT (R42). -/
def State.statStored (s : State) : Byte := s.ioByte offSTAT

/-- LY (R44). -/
def State.ly (s : State) : Byte := s.ioByte offLY

/-- LYC (R45). -/
def State.lyc (s : State) : Byte := s.ioByte offLYC

/-- The display is enabled exactly when LCDC[7] = 1 (R401). -/
def State.displayOn (s : State) : Bool := bitOf s.lcdc 7

/-- `IF <- IF | mask`: an interrupt source sets its pending flag (R362). -/
def State.raiseIf (s : State) (mask : Byte) : State := s.setIo offIF (s.ifReg ||| mask)

end Sys2Proof.Machine
end

