-- ==== Sys2Proof/Machine/Cartridge.lean ====
section
/-! DEFINITION. The five cartridge variants (22_cartridge.md): what each answers to a read and does on a write, and the
choice of the variant from the header. Addresses are bus addresses as naturals. -/

namespace Sys2Proof.Machine

/-- A header byte: "at an offset not below rom_length reads as 0x00" (R101). -/
def headerByte (cfg : Config) (off : Nat) : Byte := if off < cfg.romLength then Memory.read cfg.rom off else 0

/-- `ROM_MASK` (R102). -/
def romMask (cfg : Config) : Nat :=
  let c := (headerByte cfg 0x148).toNat
  (2 <<< (if c ≤ 8 then c else 8)) - 1

/-- The ROM offset of R104. -/
def romOffset (cfg : Config) (bank a base : Nat) : Nat := (0x4000 * bank + (a - base)) % cfg.romLength

/-- `RomByte(bank, a, base)` (R104). -/
def romByte (cfg : Config) (bank a base : Nat) : Byte := Memory.read cfg.rom (romOffset cfg bank a base)

/-- `RamOff(k, a)` (R105). -/
def ramOff (cfg : Config) (k a : Nat) : Nat := (0x2000 * k + (a - 0xA000)) % cfg.cartRamBytes

/-- The low nibble of a written byte is 0xA: the RAM gate compare of R118, R122, R126. -/
def nibbleOpens (v : Byte) : Bool := v &&& 0x0F == 0x0A

/-- The RAM gate compare of MBC1 (R113). -/
def mbc1Opens (cfg : Config) (v : Byte) : Bool := if cfg.mbc1GateFullByte then v == 0x0A else nibbleOpens v

/-- `rom_bank_eff` (R114). -/
def mbc1RomBank (cfg : Config) (r : Mbc1) : Nat :=
  ((if r.mode then 0 else r.bank2.toNat <<< 5) ||| r.bank1.toNat) &&& romMask cfg

/-- `ram_bank_eff` (R114). -/
def mbc1RamBank (r : Mbc1) : Nat := if r.mode then r.bank2.toNat else 0

/-- The bank of the switched window 0x4000 to 0x7FFF of an MBC variant (R115, R119, R123, R127). -/
def switchedBank (cfg : Config) : Cartridge → Nat
  | .noMbc => 1
  | .mbc1 r => mbc1RomBank cfg r
  | .mbc2 r => r.romBank.toNat
  | .mbc3 r => r.romBank.toNat
  | .mbc5 r => r.romBank.toNat

/-- The offset in the image that a read of `a`, at most 0x7FFF, names; none where NoMBC's image does not reach (R110). -/
def romTarget (cfg : Config) (cart : Cartridge) (a : Nat) : Option Nat :=
  match cart with
  | .noMbc => if a < cfg.romLength then some a else none
  | _ => some (if a ≤ 0x3FFF then romOffset cfg 0 a 0 else romOffset cfg (switchedBank cfg cart) a 0x4000)

/-- `CartRead(a)` for a at most 0x7FFF (R110, R115, R119, R123, R127). -/
def cartReadRom (cfg : Config) (cart : Cartridge) (a : Nat) : Byte :=
  match romTarget cfg cart a with
  | some off => Memory.read cfg.rom off
  | none => 0xFF

/-- The offset in `cart_ram` that the window address `a` (0xA000 to 0xBFFF) names; none while the gate is closed or there
is no RAM (R106, R110, R116, R120, R124, R128). -/
def cartRamTarget (cfg : Config) (cart : Cartridge) (a : Nat) : Option Nat :=
  match cart with
  | .noMbc => some (ramOff cfg 0 a)
  | .mbc1 r =>
    let size := (headerByte cfg 0x149).toNat
    if !r.ramEnable || size == 0 then none
    else if size = 1 then some (((a - 0xA000) &&& 0x07FF) % cfg.cartRamBytes)
    else if size = 2 then some (ramOff cfg 0 a)
    else some (ramOff cfg (mbc1RamBank r) a)
  | .mbc2 r => if r.ramEnable then some (((a - 0xA000) &&& 0x01FF) % cfg.cartRamBytes) else none
  | .mbc3 r => if r.ramEnable then some (ramOff cfg r.ramBank.toNat a) else none
  | .mbc5 r => if r.ramEnable then some (ramOff cfg r.ramBank.toNat a) else none

/-- What a cartridge RAM cell holding `v` reads as: MBC2 "RAM reads force high nibble to 1" (R120). -/
def cartRamReadValue (cart : Cartridge) (v : Byte) : Byte :=
  match cart with
  | .mbc2 _ => v ||| 0xF0
  | _ => v

/-- What a write of `v` stores in a cartridge RAM cell: MBC2 keeps the low nibble only (R120). -/
def cartRamWriteValue (cart : Cartridge) (v : Byte) : Byte :=
  match cart with
  | .mbc2 _ => v &&& 0x0F
  | _ => v

/-- `CartRead(a)` for a in 0xA000 to 0xBFFF. -/
def cartReadRam (cfg : Config) (cart : Cartridge) (cartRam : Memory) (a : Nat) : Byte :=
  match cartRamTarget cfg cart a with
  | some off => cartRamReadValue cart (Memory.read cartRam off)
  | none => 0xFF

/-- `CartWrite(a, v)` for a in 0xA000 to 0xBFFF: the RAM buffer after it. -/
def cartWriteRam (cfg : Config) (cart : Cartridge) (cartRam : Memory) (a : Nat) (v : Byte) : Memory :=
  match cartRamTarget cfg cart a with
  | some off => Memory.write cartRam off (cartRamWriteValue cart v)
  | none => cartRam

/-- "0 forced to 1" (R113, R118, R122). -/
def forceOne {w : Nat} (b : BitVec w) : BitVec w := if b = 0 then 1 else b

/-- MBC1 register writes (R113). -/
def mbc1Write (cfg : Config) (r : Mbc1) (a : Nat) (v : Byte) : Mbc1 :=
  if a ≤ 0x1FFF then { r with ramEnable := mbc1Opens cfg v }
  else if a ≤ 0x3FFF then { r with bank1 := forceOne (v.extractLsb' 0 5) }
  else if a ≤ 0x5FFF then { r with bank2 := v.extractLsb' 0 2 }
  else { r with mode := bitOf v 0 }

/-- MBC2 register writes (R118): address bit 8 selects the target. -/
def mbc2Write (r : Mbc2) (a : Nat) (v : Byte) : Mbc2 :=
  if a ≤ 0x3FFF then
    if a.testBit 8 then { r with romBank := forceOne v } else { r with ramEnable := nibbleOpens v }
  else r

/-- MBC3 register writes (R122). -/
def mbc3Write (r : Mbc3) (a : Nat) (v : Byte) : Mbc3 :=
  if a ≤ 0x1FFF then { r with ramEnable := nibbleOpens v }
  else if a ≤ 0x3FFF then { r with romBank := forceOne (v.extractLsb' 0 7) }
  else if a ≤ 0x5FFF then (if v < 4 then { r with ramBank := v.extractLsb' 0 2 } else r)
  else r

/-- MBC5 register writes (R126). -/
def mbc5Write (r : Mbc5) (a : Nat) (v : Byte) : Mbc5 :=
  if a ≤ 0x1FFF then { r with ramEnable := nibbleOpens v }
  else if a ≤ 0x2FFF then { r with romBank := r.romBank.extractLsb' 8 1 ++ v }
  else if a ≤ 0x3FFF then { r with romBank := v.extractLsb' 0 1 ++ r.romBank.extractLsb' 0 8 }
  else if a ≤ 0x5FFF then { r with ramBank := v.extractLsb' 0 4 }
  else r

/-- `CartWrite(a, v)` for a at most 0x7FFF: the registers after it. The image never changes (R108). -/
def cartWriteRegs (cfg : Config) (cart : Cartridge) (a : Nat) (v : Byte) : Cartridge :=
  match cart with
  | .noMbc => .noMbc
  | .mbc1 r => .mbc1 (mbc1Write cfg r a v)
  | .mbc2 r => .mbc2 (mbc2Write r a v)
  | .mbc3 r => .mbc3 (mbc3Write r a v)
  | .mbc5 r => .mbc5 (mbc5Write r a v)

/-! Reset values of the bank registers (R58, R130). -/

def mbc1Reset : Mbc1 := ⟨false, 1, 0, false⟩
def mbc2Reset : Mbc2 := ⟨false, 1⟩
def mbc3Reset : Mbc3 := ⟨false, 1, 0⟩
def mbc5Reset : Mbc5 := ⟨false, 1, 0⟩

/-- The variant that a cartridge-type byte selects, with its registers at reset; none for a value the table of R101 does
not list. -/
def cartridgeOfType (t : Byte) : Option Cartridge :=
  let n := t.toNat
  if n = 0x00 ∨ n = 0x08 ∨ n = 0x09 then some .noMbc
  else if n = 0x01 ∨ n = 0x02 ∨ n = 0x03 then some (.mbc1 mbc1Reset)
  else if n = 0x05 ∨ n = 0x06 then some (.mbc2 mbc2Reset)
  else if n = 0x0F ∨ n = 0x10 ∨ n = 0x11 ∨ n = 0x12 ∨ n = 0x13 then some (.mbc3 mbc3Reset)
  else if n = 0x19 ∨ n = 0x1A ∨ n = 0x1B ∨ n = 0x1C ∨ n = 0x1D ∨ n = 0x1E then some (.mbc5 mbc5Reset)
  else none

/-- The battery-backed column of R101. No hardware rule depends on it (R107). -/
def batteryBacked (t : Byte) : Bool :=
  let n := t.toNat
  n = 0x03 || n = 0x06 || n = 0x09 || n = 0x0F || n = 0x10 || n = 0x13 || n = 0x1B || n = 0x1E

end Sys2Proof.Machine
end

