-- ==== Sys2Proof/Machine/Scheduler.lean ====
section
/-! DEFINITION. The event list (R340 to R345): insertion in trigger-time order, removal from the front. -/

namespace Sys2Proof.Machine

/-- Capacity of the list, the sentinel included (R344). -/
def schedCapacity : Nat := 32

/-- The insertion of R341: before the first entry whose time is strictly greater, so after every entry of the same time
(R345). -/
def insertEvent (ev : Event) : List Event → List Event
  | [] => [ev]
  | e :: es => if ev.time < e.time then ev :: e :: es else e :: insertEvent ev es

/-- `SchedPush(t, kind)` (R341). A push into a full list, and one whose time is not before Panic's, latch the model fault
of R344 and R343 and change nothing else; a fault already latched stays. -/
def schedPush (s : State) (t : Nat) (kind : EventKind) : State :=
  if s.modelFault.isSome then s
  else if panicTime ≤ t then { s with modelFault := some .schedulerPanic }
  else if schedCapacity ≤ s.entries.length then { s with modelFault := some .schedulerOverflow }
  else { s with entries := insertEvent ⟨t, kind⟩ s.entries }

/-- The list without its PPU entries (R413). -/
def dropPpuEvents (es : List Event) : List Event := es.filter (fun e => e.kind != .ppu)

end Sys2Proof.Machine
end

