-- ==== Sys2Proof/Machine/Bus.lean ====
section
/-! DEFINITION. The address-bus dispatcher (20_memory.md): `BusRead`, `BusWrite`, the I/O registers behind them, the OAM
copy, and the LCDC write's enable and disable actions (62_ppu.md R413, R414). -/

namespace Sys2Proof.Machine

/-- `vram_locked` (R70, R418). -/
def State.vramLocked (s : State) : Bool := s.displayOn && s.mode == .pixelTransfer

/-- `oam_locked` (R74, R418). -/
def State.oamLocked (s : State) : Bool := s.displayOn && (s.mode == .oamScan || s.mode == .pixelTransfer)

/-- The two-bit STAT code of a mode (R42, R402). -/
def modeCode : PpuMode → Byte
  | .hBlank => 0
  | .vBlank => 1
  | .oamScan => 2
  | .pixelTransfer => 3

/-- STAT as read (R42); "while the display is disabled the mode reads 0". -/
def State.statValue (s : State) : Byte :=
  0x80 ||| (s.statStored &&& 0x78) ||| (if s.ly = s.lyc then 0x04 else 0x00)
    ||| (if s.displayOn then modeCode s.mode else 0)

/-- A byte whose low nibble has bit k clear exactly where the k-th Boolean is true (R39). -/
def pressedNibble (b0 b1 b2 b3 : Bool) : Byte :=
  (0 : BitVec 4) ++ BitVec.ofBool (!b3) ++ BitVec.ofBool (!b2) ++ BitVec.ofBool (!b1) ++ BitVec.ofBool (!b0)

/-- P1 as read (R39, R380): the select bits, and the low nibble computed from the buttons of the selected groups. -/
def State.p1Value (s : State) : Byte :=
  let sel := s.ioByte offP1
  let p := s.pressed
  let directions := if bitOf sel 4 then 0x0F else pressedNibble p.right p.left p.up p.down
  let actions := if bitOf sel 5 then 0x0F else pressedNibble p.a p.b p.select p.start
  0xC0 ||| (sel &&& 0x30) ||| (directions &&& actions)

/-- `IoRead(0xFF00 + off)` (R76). -/
def ioRead (s : State) (off : Nat) : Byte :=
  if off = offP1 then s.p1Value
  else if off = offSTAT then s.statValue
  else s.ioByte off

/-- `BusRead(a)` (R66). It returns a byte and, being a function of the state alone, changes nothing (R82). -/
def busRead (s : State) (addr : Word) : Byte :=
  let a := addr.toNat
  if a ≤ 0x00FF ∧ s.bootActive = true then Memory.read s.cfg.bootRom a
  else if a ≤ 0x7FFF then cartReadRom s.cfg s.cart a
  else if a ≤ 0x9FFF then (if s.vramLocked then 0xFF else Memory.read s.vram (a - 0x8000))
  else if a ≤ 0xBFFF then cartReadRam s.cfg s.cart s.cartRam a
  else if a ≤ 0xDFFF then Memory.read s.wram (a - 0xC000)
  else if a ≤ 0xFDFF then Memory.read s.wram (a - 0xE000)
  else if a ≤ 0xFE9F then (if s.oamLocked then 0xFF else Memory.read s.oam (a - 0xFE00))
  else if a ≤ 0xFEFF then 0xFF
  else if a ≤ 0xFF7F then ioRead s (a - 0xFF00)
  else if a ≤ 0xFFFE then Memory.read s.hram (a - 0xFF80)
  else s.ie

/-- One byte of the OAM copy (R81): the source through `BusRead`, the destination directly. -/
def oamCopyByte (v : Byte) (s : State) (i : Nat) : State :=
  { s with oam := Memory.write s.oam i (busRead s (joinBytes v 0 + BitVec.ofNat 16 i)) }

/-- The OAM copy of R81, 160 bytes in order. -/
def oamCopy (s : State) (v : Byte) : State := (List.range oamSize).foldl (oamCopyByte v) s

/-- Display disable (R413). -/
def displayDisable (s : State) : State :=
  { s.setIo offLY 0 with mode := .hBlank, wlc := 0, entries := dropPpuEvents s.entries }

/-- Display enable (R414); `now` is still the counter at the start of this CPU step. -/
def displayEnable (s : State) : State :=
  schedPush { s.setIo offLY 0 with wlc := 0, mode := .oamScan } (s.now + 80) .ppu

/-- The write of LCDC (R77): the side effects are those of a change of bit 7. -/
def writeLcdc (s : State) (v : Byte) : State :=
  let t := s.setIo offLCDC v
  if s.displayOn && !bitOf v 7 then displayDisable t
  else if !s.displayOn && bitOf v 7 then displayEnable t
  else t

/-- `IoWrite(0xFF00 + off, v)` (R77). -/
def ioWrite (s : State) (off : Nat) (v : Byte) : State :=
  if off = offP1 then s.setIo offP1 (v &&& 0x30)
  else if off = offDIV then { s.setIo offDIV 0 with divSub := 0 }
  else if off = offLCDC then writeLcdc s v
  else if off = offSTAT then s.setIo offSTAT (v &&& 0x78)
  else if off = offLY then s
  else if off = offDMA then oamCopy (s.setIo offDMA v) v
  else if off = offBOOT then { s.setIo offBOOT v with bootActive := false }
  else s.setIo off v

/-- `BusWrite(a, v)` (R67). -/
def busWrite (s : State) (addr : Word) (v : Byte) : State :=
  let a := addr.toNat
  if a ≤ 0x7FFF then { s with cart := cartWriteRegs s.cfg s.cart a v }
  else if a ≤ 0x9FFF then (if s.vramLocked then s else { s with vram := Memory.write s.vram (a - 0x8000) v })
  else if a ≤ 0xBFFF then { s with cartRam := cartWriteRam s.cfg s.cart s.cartRam a v }
  else if a ≤ 0xDFFF then { s with wram := Memory.write s.wram (a - 0xC000) v }
  else if a ≤ 0xFDFF then { s with wram := Memory.write s.wram (a - 0xE000) v }
  else if a ≤ 0xFE9F then (if s.oamLocked then s else { s with oam := Memory.write s.oam (a - 0xFE00) v })
  else if a ≤ 0xFEFF then s
  else if a ≤ 0xFF7F then ioWrite s (a - 0xFF00) v
  else if a ≤ 0xFFFE then { s with hram := Memory.write s.hram (a - 0xFF80) v }
  else { s with ie := v }

end Sys2Proof.Machine
end

