-- ==== Sys2Proof/Machine/Ops.lean ====
section
/-! DEFINITION. The named operations over registers and memory that the meanings are written with (R9 to R13), and the two
ways the machine leaves the instruction stream: the fatal decode error (R360) and an interrupt entry (R368), with the
return beside it. -/

namespace Sys2Proof.Machine

/-! Registers (R20 to R23). -/

/-- `x[r]` for a register of the 3-bit field (R145). -/
def State.reg (s : State) : Reg8 → Byte
  | .b => s.b
  | .c => s.c
  | .d => s.d
  | .e => s.e
  | .h => s.h
  | .l => s.l
  | .a => s.a

/-- `x[r] <- v`. -/
def State.setReg (s : State) (r : Reg8) (v : Byte) : State :=
  match r with
  | .b => { s with b := v }
  | .c => { s with c := v }
  | .d => { s with d := v }
  | .e => { s with e := v }
  | .h => { s with h := v }
  | .l => { s with l := v }
  | .a => { s with a := v }

/-- A write of the flags byte: "stores `v & 0xF0`" (R22). -/
def State.setF (s : State) (v : Byte) : State := { s with f := v &&& 0xF0 }

/-- The pairs of R21. -/
def State.bc (s : State) : Word := joinBytes s.b s.c
def State.de (s : State) : Word := joinBytes s.d s.e
def State.hl (s : State) : Word := joinBytes s.h s.l
def State.af (s : State) : Word := joinBytes s.a s.f

/-- Pair writes: both halves in one action (R9, R23). -/
def State.setBC (s : State) (w : Word) : State := { s with b := highByte w, c := lowByte w }
def State.setDE (s : State) (w : Word) : State := { s with d := highByte w, e := lowByte w }
def State.setHL (s : State) (w : Word) : State := { s with h := highByte w, l := lowByte w }
def State.setAF (s : State) (w : Word) : State := { s with a := highByte w, f := lowByte w &&& 0xF0 }

/-- The flag bits of R22. -/
def State.flagZ (s : State) : Bool := bitOf s.f 7
def State.flagN (s : State) : Bool := bitOf s.f 6
def State.flagH (s : State) : Bool := bitOf s.f 5
def State.flagC (s : State) : Bool := bitOf s.f 4

/-- The flags byte with the four given bits and F[3:0] = 0 (R22, R215). -/
def flagsByte (z n h c : Bool) : Byte :=
  BitVec.ofBool z ++ BitVec.ofBool n ++ BitVec.ofBool h ++ BitVec.ofBool c ++ (0 : BitVec 4)

/-- All four flags written at once (R215). A flag an instruction leaves is passed its old value. -/
def State.setFlags (s : State) (z n h c : Bool) : State := { s with f := flagsByte z n h c }

/-! Progress. -/

/-- The instruction's `len` bytes have been fetched (R11) and its cost is `cost` (R13). -/
def State.advance (s : State) (len : Nat) (cost : Nat) : State :=
  { s with pc := s.pc + BitVec.ofNat 16 len, cycles := cost }

/-- `pc <- target`. -/
def State.jump (s : State) (target : Word) : State := { s with pc := target }

/-- `cycles <- cost` (R13). -/
def State.charge (s : State) (cost : Nat) : State := { s with cycles := cost }

/-! Memory (R10) and stack (R12). -/

/-- `MemRead(addr, 1)`. -/
def State.memRead (s : State) (addr : Word) : Byte := busRead s addr

/-- `MemRead(addr, 2)`: the byte at `addr` is the low half (R62). -/
def State.memRead16 (s : State) (addr : Word) : Word := joinBytes (busRead s (addr + 1)) (busRead s addr)

/-- `MemWrite(addr, 1, v)`. -/
def State.memWrite (s : State) (addr : Word) (v : Byte) : State := busWrite s addr v

/-- `MemWrite(addr, 2, v)`: the low byte first (R10, 92_eei_decisions.md D14). -/
def State.memWrite16 (s : State) (addr : Word) (v : Word) : State :=
  busWrite (busWrite s addr (lowByte v)) (addr + 1) (highByte v)

/-- `Push16(v)`. -/
def State.push16 (s : State) (v : Word) : State := State.memWrite16 { s with sp := s.sp - 2 } (s.sp - 2) v

/-- The value `Pop16()` returns. -/
def State.popValue (s : State) : Word := s.memRead16 s.sp

/-- The stack pointer after `Pop16()`. -/
def State.popped (s : State) : State := { s with sp := s.sp + 2 }

/-! Leaving the instruction stream. -/

/-- `raise Fatal(opcode, addr)` with `addr` the program counter at the start of the step (R315, R360): the record is set
and everything else, `pc` included, keeps its value. -/
def raiseFatal (opcode : Byte) (s : State) : State := { s with fatal := some ⟨opcode, s.pc⟩ }

/-- `IE & IF & 0x1F` (R335, R363): the sources pending and enabled. -/
def State.pending (s : State) : Byte := s.ie &&& s.ifReg &&& 0x1F

/-- The least set bit of the pending sources (R364, R367). -/
def lowestSource (p : Byte) : Nat :=
  if bitOf p 0 then 0
  else if bitOf p 1 then 1
  else if bitOf p 2 then 2
  else if bitOf p 3 then 3
  else 4

/-- The vector of source i: `0x0040 + 8 * i` (R367). -/
def interruptVector (i : Nat) : Word := 0x0040 + BitVec.ofNat 16 (8 * i)

/-- `InterruptEntry(i)` (R368), in the document's order. -/
def interruptEntry (i : Nat) (s : State) : State :=
  let cleared := s.setIo offIF (s.ifReg &&& (0xFF ^^^ ((1 : Byte) <<< i)))
  let pushed := cleared.push16 cleared.pc
  { pushed with pc := interruptVector i, ime := false, cycles := 20 }

/-- `pc <- Pop16()` (R298). -/
def returnFromCall (s : State) : State := (s.popped).jump s.popValue

/-- The return from an interrupt (R300, R370): `pc <- Pop16(); ime <- 1`. -/
def returnFromInterrupt (s : State) : State := { returnFromCall s with ime := true }

end Sys2Proof.Machine
end

