-- ==== Sys2Proof/Machine/Flags.lean ====
section
/-! DEFINITION. Every result and flag computation of the arithmetic, rotate and shift instructions (R216, R217, R246,
R250, R254, R260). -/

namespace Sys2Proof.Machine

/-- A result byte with its zero, half-carry and carry bits. -/
structure ByteResult where
  res : Byte
  z : Bool
  h : Bool
  c : Bool
deriving DecidableEq, Repr

/-- `Add8(a, b, cin)` (R216). -/
def add8 (a b : Byte) (cin : Bool) : ByteResult :=
  let s := a.toNat + b.toNat + bitNat cin
  let res := BitVec.ofNat 8 s
  ⟨res, res == 0, decide (a.toNat % 16 + b.toNat % 16 + bitNat cin > 0x0F), decide (s > 0xFF)⟩

/-- `Sub8(a, b, cin)` (R217). -/
def sub8 (a b : Byte) (cin : Bool) : ByteResult :=
  let d : Int := (a.toNat : Int) - (b.toNat : Int) - (bitNat cin : Int)
  let res := BitVec.ofInt 8 d
  ⟨res, res == 0, decide (((a.toNat % 16 : Nat) : Int) - ((b.toNat % 16 : Nat) : Int) - (bitNat cin : Int) < 0),
    decide (d < 0)⟩

/-- DAA's value and carry (R246): the statements run in the order written, on an integer truncated at the end. -/
def daaAdjust (a : Byte) (n h c : Bool) : Byte × Bool :=
  let v : Int := a.toNat
  if n then
    let v1 := if c then v - 0x60 else v
    let v2 := if h then v1 - 0x06 else v1
    (BitVec.ofInt 8 v2, c)
  else
    let high := c || decide (v > 0x99)
    let v1 := if high then v + 0x60 else v
    let v2 := if h || decide (v1 % 16 > 0x09) then v1 + 0x06 else v1
    (BitVec.ofInt 8 v2, high)

/-- A result word with its half-carry and carry bits. -/
structure WordResult where
  res : Word
  h : Bool
  c : Bool
deriving DecidableEq, Repr

/-- ADD HL's sum, with the carries out of bits 11 and 15 (R250). -/
def add16 (a b : Word) : WordResult :=
  let s := a.toNat + b.toNat
  ⟨BitVec.ofNat 16 s, decide (a.toNat % 0x1000 + b.toNat % 0x1000 > 0x0FFF), decide (s > 0xFFFF)⟩

/-- `SpRel(sp, e)` (R254) under either value of SPREL_FLAGS. -/
def spRel (mode : SprelFlags) (sp : Word) (e : Byte) : WordResult :=
  let res := sp + signExtend16 e
  let low := sp.toNat % 0x100 + e.toNat
  match mode with
  | .nibbleByte => ⟨res, decide (sp.toNat % 0x10 + e.toNat % 0x10 > 0x0F), decide (low > 0xFF)⟩
  | .byteWord => ⟨res, decide (low > 0xFF), decide (sp.toNat + (signExtend16 e).toNat > 0xFFFF)⟩

/-! The one-bit operations of R260, each giving the result and the bit moved out. -/

def rlc8 (v : Byte) : Byte × Bool := ((v <<< 1) ||| (v >>> 7), bitOf v 7)
def rrc8 (v : Byte) : Byte × Bool := ((v >>> 1) ||| (v <<< 7), bitOf v 0)
def rl8 (v : Byte) (cin : Bool) : Byte × Bool := ((v <<< 1) ||| (if cin then 0x01 else 0x00), bitOf v 7)
def rr8 (v : Byte) (cin : Bool) : Byte × Bool := ((v >>> 1) ||| (if cin then 0x80 else 0x00), bitOf v 0)
def sla8 (v : Byte) : Byte × Bool := (v <<< 1, bitOf v 7)
def sra8 (v : Byte) : Byte × Bool := ((v >>> 1) ||| (v &&& 0x80), bitOf v 0)
def srl8 (v : Byte) : Byte × Bool := (v >>> 1, bitOf v 0)
def swap8 (v : Byte) : Byte × Bool := ((v <<< 4) ||| (v >>> 4), false)

/-- The operation that field y of the CB page names (R151). -/
def rotate8 (op : RotOp) (v : Byte) (cin : Bool) : Byte × Bool :=
  match op with
  | .rlc => rlc8 v
  | .rrc => rrc8 v
  | .rl => rl8 v cin
  | .rr => rr8 v cin
  | .sla => sla8 v
  | .sra => sra8 v
  | .swap => swap8 v
  | .srl => srl8 v

end Sys2Proof.Machine
end

