-- ==== Sys2Proof/Machine/Operands.lean ====
section
/-! DEFINITION. The operand forms of 30_encoding.md: the register-pair groups (R146 to R148) and the conditions (R149,
R14). The 3-bit register field (R145) is `State.reg` and, for code 6, `State.memRead s.hl`. -/

namespace Sys2Proof.Machine

/-- `rp(p)`: the general group (R146). -/
def State.pair (s : State) : RegPair → Word
  | .bc => s.bc
  | .de => s.de
  | .hl => s.hl
  | .sp => s.sp

/-- `rp(p) <- w`. -/
def State.setPair (s : State) (p : RegPair) (w : Word) : State :=
  match p with
  | .bc => s.setBC w
  | .de => s.setDE w
  | .hl => s.setHL w
  | .sp => { s with sp := w }

/-- `rp2(p)`: the stack group (R148). -/
def State.stackPair (s : State) : StackPair → Word
  | .bc => s.bc
  | .de => s.de
  | .hl => s.hl
  | .af => s.af

/-- `rp2(p) <- w`; AF's low half is a write of F (R204). -/
def State.setStackPair (s : State) (p : StackPair) (w : Word) : State :=
  match p with
  | .bc => s.setBC w
  | .de => s.setDE w
  | .hl => s.setHL w
  | .af => s.setAF w

/-- The address the indirect group names (R147). -/
def State.pointer (s : State) : Pointer → Word
  | .bc => s.bc
  | .de => s.de
  | .hlInc => s.hl
  | .hlDec => s.hl

/-- The pointer's update after the access (R147). -/
def State.movePointer (s : State) : Pointer → State
  | .bc => s
  | .de => s
  | .hlInc => s.setHL (s.hl + 1)
  | .hlDec => s.setHL (s.hl - 1)

/-- `cond(cc)` (R14, R149). -/
def State.holds (s : State) : Cond → Bool
  | .nz => !s.flagZ
  | .z => s.flagZ
  | .nc => !s.flagC
  | .c => s.flagC

end Sys2Proof.Machine
end

