-- ==== Sys2Proof/Machine/Alu16.lean ====
section
/-! DEFINITION. The 16-bit arithmetic instructions (43_alu16.md). -/

namespace Sys2Proof.Machine

/-- R250: HL plus a pair; Z unchanged. -/
def addHLPair (p : RegPair) (s : State) : Result :=
  let r := add16 s.hl (s.pair p)
  .next (((s.advance 1 8).setHL r.res).setFlags s.flagZ false r.h r.c)

/-- R251: no flag is written. -/
def incPair (p : RegPair) (s : State) : Result := .next ((s.advance 1 8).setPair p (s.pair p + 1))

/-- R252: no flag is written. -/
def decPair (p : RegPair) (s : State) : Result := .next ((s.advance 1 8).setPair p (s.pair p - 1))

/-- R250. ADD HL,BC (0x09). -/
def exec_add_hl_bc (s : State) : Result := addHLPair .bc s

/-- R250. ADD HL,DE (0x19). -/
def exec_add_hl_de (s : State) : Result := addHLPair .de s

/-- R250. ADD HL,HL (0x29). -/
def exec_add_hl_hl (s : State) : Result := addHLPair .hl s

/-- R250. ADD HL,SP (0x39). -/
def exec_add_hl_sp (s : State) : Result := addHLPair .sp s

/-- R251. INC BC (0x03). -/
def exec_inc_bc (s : State) : Result := incPair .bc s

/-- R251. INC DE (0x13). -/
def exec_inc_de (s : State) : Result := incPair .de s

/-- R251. INC HL (0x23). -/
def exec_inc_hl (s : State) : Result := incPair .hl s

/-- R251. INC SP (0x33). -/
def exec_inc_sp (s : State) : Result := incPair .sp s

/-- R252. DEC BC (0x0B). -/
def exec_dec_bc (s : State) : Result := decPair .bc s

/-- R252. DEC DE (0x1B). -/
def exec_dec_de (s : State) : Result := decPair .de s

/-- R252. DEC HL (0x2B). -/
def exec_dec_hl (s : State) : Result := decPair .hl s

/-- R252. DEC SP (0x3B). -/
def exec_dec_sp (s : State) : Result := decPair .sp s

/-- R253. ADD SP,e8 (0xE8). -/
def exec_add_sp_e8 (e : Byte) (s : State) : Result :=
  let r := spRel s.cfg.sprelFlags s.sp e
  .next (State.setFlags { s.advance 2 16 with sp := r.res } false false r.h r.c)

end Sys2Proof.Machine
end

