-- ==== Sys2Proof/Machine/Alu8.lean ====
section
/-! DEFINITION. The 8-bit arithmetic and logic instructions (42_alu8.md). -/

namespace Sys2Proof.Machine

/-- A and the flags after an addition or subtraction (R218 to R229). -/
def State.setSum (s : State) (r : ByteResult) (n : Bool) : State := (s.setReg .a r.res).setFlags r.z n r.h r.c

/-- A and the flags after a logic operation (R230 to R238). -/
def State.setLogic (s : State) (v : Byte) (h : Bool) : State := (s.setReg .a v).setFlags (v == 0) false h false

/-- The ALU operation of field y (R150) on A and the operand `v`. -/
def aluOn (op : AluOp) (v : Byte) (s : State) : State :=
  match op with
  | .add => s.setSum (add8 s.a v false) false
  | .adc => s.setSum (add8 s.a v s.flagC) false
  | .sub => s.setSum (sub8 s.a v false) true
  | .sbc => s.setSum (sub8 s.a v s.flagC) true
  | .and => s.setLogic (s.a &&& v) true
  | .xor => s.setLogic (s.a ^^^ v) false
  | .or => s.setLogic (s.a ||| v) false
  | .cp =>
    let r := sub8 s.a v false
    s.setFlags r.z true r.h r.c

/-- The register form (R215). -/
def aluReg (op : AluOp) (r : Reg8) (s : State) : Result := .next (aluOn op (s.reg r) (s.advance 1 4))

/-- The (HL) form (R215). -/
def aluHL (op : AluOp) (s : State) : Result := .next (aluOn op (s.memRead s.hl) (s.advance 1 8))

/-- The immediate form (R215). -/
def aluImm (op : AluOp) (n : Byte) (s : State) : Result := .next (aluOn op n (s.advance 2 8))

/-- The flags of INC of the byte `v`: carry unchanged (R242). -/
def State.setIncFlags (s : State) (v : Byte) : State :=
  s.setFlags (v + 1 == 0) false (v &&& 0x0F == 0x0F) s.flagC

/-- The flags of DEC of the byte `v`: carry unchanged (R244). -/
def State.setDecFlags (s : State) (v : Byte) : State :=
  s.setFlags (v - 1 == 0) true (v &&& 0x0F == 0x00) s.flagC

/-- R242: `R8(y) <- R8(y) + 1`. -/
def incReg (r : Reg8) (s : State) : Result :=
  .next (((s.advance 1 4).setReg r (s.reg r + 1)).setIncFlags (s.reg r))

/-- R244: `R8(y) <- R8(y) - 1`. -/
def decReg (r : Reg8) (s : State) : Result :=
  .next (((s.advance 1 4).setReg r (s.reg r - 1)).setDecFlags (s.reg r))

/-- R218. ADD A,B (0x80). -/
def exec_add_a_b (s : State) : Result := aluReg .add .b s

/-- R218. ADD A,C (0x81). -/
def exec_add_a_c (s : State) : Result := aluReg .add .c s

/-- R218. ADD A,D (0x82). -/
def exec_add_a_d (s : State) : Result := aluReg .add .d s

/-- R218. ADD A,E (0x83). -/
def exec_add_a_e (s : State) : Result := aluReg .add .e s

/-- R218. ADD A,H (0x84). -/
def exec_add_a_h (s : State) : Result := aluReg .add .h s

/-- R218. ADD A,L (0x85). -/
def exec_add_a_l (s : State) : Result := aluReg .add .l s

/-- R218. ADD A,A (0x87). -/
def exec_add_a_a (s : State) : Result := aluReg .add .a s

/-- R219. ADD A,(HL) (0x86). -/
def exec_add_a_atHL (s : State) : Result := aluHL .add s

/-- R220. ADD A,d8 (0xC6). -/
def exec_add_a_d8 (n : Byte) (s : State) : Result := aluImm .add n s

/-- R221. ADC A,B (0x88). -/
def exec_adc_a_b (s : State) : Result := aluReg .adc .b s

/-- R221. ADC A,C (0x89). -/
def exec_adc_a_c (s : State) : Result := aluReg .adc .c s

/-- R221. ADC A,D (0x8A). -/
def exec_adc_a_d (s : State) : Result := aluReg .adc .d s

/-- R221. ADC A,E (0x8B). -/
def exec_adc_a_e (s : State) : Result := aluReg .adc .e s

/-- R221. ADC A,H (0x8C). -/
def exec_adc_a_h (s : State) : Result := aluReg .adc .h s

/-- R221. ADC A,L (0x8D). -/
def exec_adc_a_l (s : State) : Result := aluReg .adc .l s

/-- R221. ADC A,A (0x8F). -/
def exec_adc_a_a (s : State) : Result := aluReg .adc .a s

/-- R222. ADC A,(HL) (0x8E). -/
def exec_adc_a_atHL (s : State) : Result := aluHL .adc s

/-- R223. ADC A,d8 (0xCE). -/
def exec_adc_a_d8 (n : Byte) (s : State) : Result := aluImm .adc n s

/-- R224. SUB B (0x90). -/
def exec_sub_b (s : State) : Result := aluReg .sub .b s

/-- R224. SUB C (0x91). -/
def exec_sub_c (s : State) : Result := aluReg .sub .c s

/-- R224. SUB D (0x92). -/
def exec_sub_d (s : State) : Result := aluReg .sub .d s

/-- R224. SUB E (0x93). -/
def exec_sub_e (s : State) : Result := aluReg .sub .e s

/-- R224. SUB H (0x94). -/
def exec_sub_h (s : State) : Result := aluReg .sub .h s

/-- R224. SUB L (0x95). -/
def exec_sub_l (s : State) : Result := aluReg .sub .l s

/-- R224. SUB A (0x97). -/
def exec_sub_a (s : State) : Result := aluReg .sub .a s

/-- R225. SUB (HL) (0x96). -/
def exec_sub_atHL (s : State) : Result := aluHL .sub s

/-- R226. SUB d8 (0xD6). -/
def exec_sub_d8 (n : Byte) (s : State) : Result := aluImm .sub n s

/-- R227. SBC A,B (0x98). -/
def exec_sbc_a_b (s : State) : Result := aluReg .sbc .b s

/-- R227. SBC A,C (0x99). -/
def exec_sbc_a_c (s : State) : Result := aluReg .sbc .c s

/-- R227. SBC A,D (0x9A). -/
def exec_sbc_a_d (s : State) : Result := aluReg .sbc .d s

/-- R227. SBC A,E (0x9B). -/
def exec_sbc_a_e (s : State) : Result := aluReg .sbc .e s

/-- R227. SBC A,H (0x9C). -/
def exec_sbc_a_h (s : State) : Result := aluReg .sbc .h s

/-- R227. SBC A,L (0x9D). -/
def exec_sbc_a_l (s : State) : Result := aluReg .sbc .l s

/-- R227. SBC A,A (0x9F). -/
def exec_sbc_a_a (s : State) : Result := aluReg .sbc .a s

/-- R228. SBC A,(HL) (0x9E). -/
def exec_sbc_a_atHL (s : State) : Result := aluHL .sbc s

/-- R229. SBC A,d8 (0xDE). -/
def exec_sbc_a_d8 (n : Byte) (s : State) : Result := aluImm .sbc n s

/-- R230. AND B (0xA0). -/
def exec_and_b (s : State) : Result := aluReg .and .b s

/-- R230. AND C (0xA1). -/
def exec_and_c (s : State) : Result := aluReg .and .c s

/-- R230. AND D (0xA2). -/
def exec_and_d (s : State) : Result := aluReg .and .d s

/-- R230. AND E (0xA3). -/
def exec_and_e (s : State) : Result := aluReg .and .e s

/-- R230. AND H (0xA4). -/
def exec_and_h (s : State) : Result := aluReg .and .h s

/-- R230. AND L (0xA5). -/
def exec_and_l (s : State) : Result := aluReg .and .l s

/-- R230. AND A (0xA7). -/
def exec_and_a (s : State) : Result := aluReg .and .a s

/-- R231. AND (HL) (0xA6). -/
def exec_and_atHL (s : State) : Result := aluHL .and s

/-- R232. AND d8 (0xE6). -/
def exec_and_d8 (n : Byte) (s : State) : Result := aluImm .and n s

/-- R233. XOR B (0xA8). -/
def exec_xor_b (s : State) : Result := aluReg .xor .b s

/-- R233. XOR C (0xA9). -/
def exec_xor_c (s : State) : Result := aluReg .xor .c s

/-- R233. XOR D (0xAA). -/
def exec_xor_d (s : State) : Result := aluReg .xor .d s

/-- R233. XOR E (0xAB). -/
def exec_xor_e (s : State) : Result := aluReg .xor .e s

/-- R233. XOR H (0xAC). -/
def exec_xor_h (s : State) : Result := aluReg .xor .h s

/-- R233. XOR L (0xAD). -/
def exec_xor_l (s : State) : Result := aluReg .xor .l s

/-- R233. XOR A (0xAF). -/
def exec_xor_a (s : State) : Result := aluReg .xor .a s

/-- R234. XOR (HL) (0xAE). -/
def exec_xor_atHL (s : State) : Result := aluHL .xor s

/-- R235. XOR d8 (0xEE). -/
def exec_xor_d8 (n : Byte) (s : State) : Result := aluImm .xor n s

/-- R236. OR B (0xB0). -/
def exec_or_b (s : State) : Result := aluReg .or .b s

/-- R236. OR C (0xB1). -/
def exec_or_c (s : State) : Result := aluReg .or .c s

/-- R236. OR D (0xB2). -/
def exec_or_d (s : State) : Result := aluReg .or .d s

/-- R236. OR E (0xB3). -/
def exec_or_e (s : State) : Result := aluReg .or .e s

/-- R236. OR H (0xB4). -/
def exec_or_h (s : State) : Result := aluReg .or .h s

/-- R236. OR L (0xB5). -/
def exec_or_l (s : State) : Result := aluReg .or .l s

/-- R236. OR A (0xB7). -/
def exec_or_a (s : State) : Result := aluReg .or .a s

/-- R237. OR (HL) (0xB6). -/
def exec_or_atHL (s : State) : Result := aluHL .or s

/-- R238. OR d8 (0xF6). -/
def exec_or_d8 (n : Byte) (s : State) : Result := aluImm .or n s

/-- R239. CP B (0xB8). -/
def exec_cp_b (s : State) : Result := aluReg .cp .b s

/-- R239. CP C (0xB9). -/
def exec_cp_c (s : State) : Result := aluReg .cp .c s

/-- R239. CP D (0xBA). -/
def exec_cp_d (s : State) : Result := aluReg .cp .d s

/-- R239. CP E (0xBB). -/
def exec_cp_e (s : State) : Result := aluReg .cp .e s

/-- R239. CP H (0xBC). -/
def exec_cp_h (s : State) : Result := aluReg .cp .h s

/-- R239. CP L (0xBD). -/
def exec_cp_l (s : State) : Result := aluReg .cp .l s

/-- R239. CP A (0xBF). -/
def exec_cp_a (s : State) : Result := aluReg .cp .a s

/-- R240. CP (HL) (0xBE). -/
def exec_cp_atHL (s : State) : Result := aluHL .cp s

/-- R241. CP d8 (0xFE). -/
def exec_cp_d8 (n : Byte) (s : State) : Result := aluImm .cp n s

/-- R242. INC B (0x04). -/
def exec_inc_b (s : State) : Result := incReg .b s

/-- R242. INC C (0x0C). -/
def exec_inc_c (s : State) : Result := incReg .c s

/-- R242. INC D (0x14). -/
def exec_inc_d (s : State) : Result := incReg .d s

/-- R242. INC E (0x1C). -/
def exec_inc_e (s : State) : Result := incReg .e s

/-- R242. INC H (0x24). -/
def exec_inc_h (s : State) : Result := incReg .h s

/-- R242. INC L (0x2C). -/
def exec_inc_l (s : State) : Result := incReg .l s

/-- R242. INC A (0x3C). -/
def exec_inc_a (s : State) : Result := incReg .a s

/-- R243. INC (HL) (0x34). -/
def exec_inc_atHL (s : State) : Result :=
  let v := s.memRead s.hl
  .next (((s.advance 1 12).memWrite s.hl (v + 1)).setIncFlags v)

/-- R244. DEC B (0x05). -/
def exec_dec_b (s : State) : Result := decReg .b s

/-- R244. DEC C (0x0D). -/
def exec_dec_c (s : State) : Result := decReg .c s

/-- R244. DEC D (0x15). -/
def exec_dec_d (s : State) : Result := decReg .d s

/-- R244. DEC E (0x1D). -/
def exec_dec_e (s : State) : Result := decReg .e s

/-- R244. DEC H (0x25). -/
def exec_dec_h (s : State) : Result := decReg .h s

/-- R244. DEC L (0x2D). -/
def exec_dec_l (s : State) : Result := decReg .l s

/-- R244. DEC A (0x3D). -/
def exec_dec_a (s : State) : Result := decReg .a s

/-- R245. DEC (HL) (0x35). -/
def exec_dec_atHL (s : State) : Result :=
  let v := s.memRead s.hl
  .next (((s.advance 1 12).memWrite s.hl (v - 1)).setDecFlags v)

/-- R246. DAA (0x27). -/
def exec_daa (s : State) : Result :=
  let r := daaAdjust s.a s.flagN s.flagH s.flagC
  .next (((s.advance 1 4).setReg .a r.1).setFlags (r.1 == 0) s.flagN false r.2)

/-- R247. CPL (0x2F). -/
def exec_cpl (s : State) : Result :=
  .next (((s.advance 1 4).setReg .a (s.a ^^^ 0xFF)).setFlags s.flagZ true true s.flagC)

/-- R248. SCF (0x37). -/
def exec_scf (s : State) : Result :=
  .next ((s.advance 1 4).setFlags s.flagZ false false true)

/-- R249. CCF (0x3F). -/
def exec_ccf (s : State) : Result :=
  .next ((s.advance 1 4).setFlags s.flagZ false false (!s.flagC))

end Sys2Proof.Machine
end

