-- ==== Sys2Proof/Machine/BitOps.lean ====
section
/-! DEFINITION. BIT, RES and SET of the CB page (44_rotate_shift_bit.md). -/

namespace Sys2Proof.Machine

/-- The flags of BIT: Z the complement of the tested bit, N = 0, Hf = 1, Cy unchanged (R282). -/
def State.setBitFlags (s : State) (k : Bit3) (v : Byte) : State :=
  s.setFlags (!bitOf v k.toNat) false true s.flagC

/-- `v & (0xFF ^ (1 << b))` (R284). -/
def clearBit (k : Bit3) (v : Byte) : Byte := v &&& (0xFF ^^^ ((1 : Byte) <<< k.toNat))

/-- `v | (1 << b)` (R286). -/
def raiseBit (k : Bit3) (v : Byte) : Byte := v ||| ((1 : Byte) <<< k.toNat)

/-- R282. -/
def bitTestReg (k : Bit3) (r : Reg8) (s : State) : Result := .next ((s.advance 2 8).setBitFlags k (s.reg r))

/-- R283: one read, no write. -/
def bitTestHL (k : Bit3) (s : State) : Result := .next ((s.advance 2 12).setBitFlags k (s.memRead s.hl))

/-- R284: no flag is written. -/
def bitResetReg (k : Bit3) (r : Reg8) (s : State) : Result :=
  .next ((s.advance 2 8).setReg r (clearBit k (s.reg r)))

/-- R285: the write happens even when the value does not change. -/
def bitResetHL (k : Bit3) (s : State) : Result :=
  .next ((s.advance 2 16).memWrite s.hl (clearBit k (s.memRead s.hl)))

/-- R286: no flag is written. -/
def bitSetReg (k : Bit3) (r : Reg8) (s : State) : Result :=
  .next ((s.advance 2 8).setReg r (raiseBit k (s.reg r)))

/-- R287: the write happens even when the value does not change. -/
def bitSetHL (k : Bit3) (s : State) : Result :=
  .next ((s.advance 2 16).memWrite s.hl (raiseBit k (s.memRead s.hl)))

/-- R282. BIT 0,B (0xCB 0x40). -/
def exec_bit_0_b (s : State) : Result := bitTestReg .n0 .b s

/-- R282. BIT 0,C (0xCB 0x41). -/
def exec_bit_0_c (s : State) : Result := bitTestReg .n0 .c s

/-- R282. BIT 0,D (0xCB 0x42). -/
def exec_bit_0_d (s : State) : Result := bitTestReg .n0 .d s

/-- R282. BIT 0,E (0xCB 0x43). -/
def exec_bit_0_e (s : State) : Result := bitTestReg .n0 .e s

/-- R282. BIT 0,H (0xCB 0x44). -/
def exec_bit_0_h (s : State) : Result := bitTestReg .n0 .h s

/-- R282. BIT 0,L (0xCB 0x45). -/
def exec_bit_0_l (s : State) : Result := bitTestReg .n0 .l s

/-- R282. BIT 0,A (0xCB 0x47). -/
def exec_bit_0_a (s : State) : Result := bitTestReg .n0 .a s

/-- R283. BIT 0,(HL) (0xCB 0x46). -/
def exec_bit_0_atHL (s : State) : Result := bitTestHL .n0 s

/-- R282. BIT 1,B (0xCB 0x48). -/
def exec_bit_1_b (s : State) : Result := bitTestReg .n1 .b s

/-- R282. BIT 1,C (0xCB 0x49). -/
def exec_bit_1_c (s : State) : Result := bitTestReg .n1 .c s

/-- R282. BIT 1,D (0xCB 0x4A). -/
def exec_bit_1_d (s : State) : Result := bitTestReg .n1 .d s

/-- R282. BIT 1,E (0xCB 0x4B). -/
def exec_bit_1_e (s : State) : Result := bitTestReg .n1 .e s

/-- R282. BIT 1,H (0xCB 0x4C). -/
def exec_bit_1_h (s : State) : Result := bitTestReg .n1 .h s

/-- R282. BIT 1,L (0xCB 0x4D). -/
def exec_bit_1_l (s : State) : Result := bitTestReg .n1 .l s

/-- R282. BIT 1,A (0xCB 0x4F). -/
def exec_bit_1_a (s : State) : Result := bitTestReg .n1 .a s

/-- R283. BIT 1,(HL) (0xCB 0x4E). -/
def exec_bit_1_atHL (s : State) : Result := bitTestHL .n1 s

/-- R282. BIT 2,B (0xCB 0x50). -/
def exec_bit_2_b (s : State) : Result := bitTestReg .n2 .b s

/-- R282. BIT 2,C (0xCB 0x51). -/
def exec_bit_2_c (s : State) : Result := bitTestReg .n2 .c s

/-- R282. BIT 2,D (0xCB 0x52). -/
def exec_bit_2_d (s : State) : Result := bitTestReg .n2 .d s

/-- R282. BIT 2,E (0xCB 0x53). -/
def exec_bit_2_e (s : State) : Result := bitTestReg .n2 .e s

/-- R282. BIT 2,H (0xCB 0x54). -/
def exec_bit_2_h (s : State) : Result := bitTestReg .n2 .h s

/-- R282. BIT 2,L (0xCB 0x55). -/
def exec_bit_2_l (s : State) : Result := bitTestReg .n2 .l s

/-- R282. BIT 2,A (0xCB 0x57). -/
def exec_bit_2_a (s : State) : Result := bitTestReg .n2 .a s

/-- R283. BIT 2,(HL) (0xCB 0x56). -/
def exec_bit_2_atHL (s : State) : Result := bitTestHL .n2 s

/-- R282. BIT 3,B (0xCB 0x58). -/
def exec_bit_3_b (s : State) : Result := bitTestReg .n3 .b s

/-- R282. BIT 3,C (0xCB 0x59). -/
def exec_bit_3_c (s : State) : Result := bitTestReg .n3 .c s

/-- R282. BIT 3,D (0xCB 0x5A). -/
def exec_bit_3_d (s : State) : Result := bitTestReg .n3 .d s

/-- R282. BIT 3,E (0xCB 0x5B). -/
def exec_bit_3_e (s : State) : Result := bitTestReg .n3 .e s

/-- R282. BIT 3,H (0xCB 0x5C). -/
def exec_bit_3_h (s : State) : Result := bitTestReg .n3 .h s

/-- R282. BIT 3,L (0xCB 0x5D). -/
def exec_bit_3_l (s : State) : Result := bitTestReg .n3 .l s

/-- R282. BIT 3,A (0xCB 0x5F). -/
def exec_bit_3_a (s : State) : Result := bitTestReg .n3 .a s

/-- R283. BIT 3,(HL) (0xCB 0x5E). -/
def exec_bit_3_atHL (s : State) : Result := bitTestHL .n3 s

/-- R282. BIT 4,B (0xCB 0x60). -/
def exec_bit_4_b (s : State) : Result := bitTestReg .n4 .b s

/-- R282. BIT 4,C (0xCB 0x61). -/
def exec_bit_4_c (s : State) : Result := bitTestReg .n4 .c s

/-- R282. BIT 4,D (0xCB 0x62). -/
def exec_bit_4_d (s : State) : Result := bitTestReg .n4 .d s

/-- R282. BIT 4,E (0xCB 0x63). -/
def exec_bit_4_e (s : State) : Result := bitTestReg .n4 .e s

/-- R282. BIT 4,H (0xCB 0x64). -/
def exec_bit_4_h (s : State) : Result := bitTestReg .n4 .h s

/-- R282. BIT 4,L (0xCB 0x65). -/
def exec_bit_4_l (s : State) : Result := bitTestReg .n4 .l s

/-- R282. BIT 4,A (0xCB 0x67). -/
def exec_bit_4_a (s : State) : Result := bitTestReg .n4 .a s

/-- R283. BIT 4,(HL) (0xCB 0x66). -/
def exec_bit_4_atHL (s : State) : Result := bitTestHL .n4 s

/-- R282. BIT 5,B (0xCB 0x68). -/
def exec_bit_5_b (s : State) : Result := bitTestReg .n5 .b s

/-- R282. BIT 5,C (0xCB 0x69). -/
def exec_bit_5_c (s : State) : Result := bitTestReg .n5 .c s

/-- R282. BIT 5,D (0xCB 0x6A). -/
def exec_bit_5_d (s : State) : Result := bitTestReg .n5 .d s

/-- R282. BIT 5,E (0xCB 0x6B). -/
def exec_bit_5_e (s : State) : Result := bitTestReg .n5 .e s

/-- R282. BIT 5,H (0xCB 0x6C). -/
def exec_bit_5_h (s : State) : Result := bitTestReg .n5 .h s

/-- R282. BIT 5,L (0xCB 0x6D). -/
def exec_bit_5_l (s : State) : Result := bitTestReg .n5 .l s

/-- R282. BIT 5,A (0xCB 0x6F). -/
def exec_bit_5_a (s : State) : Result := bitTestReg .n5 .a s

/-- R283. BIT 5,(HL) (0xCB 0x6E). -/
def exec_bit_5_atHL (s : State) : Result := bitTestHL .n5 s

/-- R282. BIT 6,B (0xCB 0x70). -/
def exec_bit_6_b (s : State) : Result := bitTestReg .n6 .b s

/-- R282. BIT 6,C (0xCB 0x71). -/
def exec_bit_6_c (s : State) : Result := bitTestReg .n6 .c s

/-- R282. BIT 6,D (0xCB 0x72). -/
def exec_bit_6_d (s : State) : Result := bitTestReg .n6 .d s

/-- R282. BIT 6,E (0xCB 0x73). -/
def exec_bit_6_e (s : State) : Result := bitTestReg .n6 .e s

/-- R282. BIT 6,H (0xCB 0x74). -/
def exec_bit_6_h (s : State) : Result := bitTestReg .n6 .h s

/-- R282. BIT 6,L (0xCB 0x75). -/
def exec_bit_6_l (s : State) : Result := bitTestReg .n6 .l s

/-- R282. BIT 6,A (0xCB 0x77). -/
def exec_bit_6_a (s : State) : Result := bitTestReg .n6 .a s

/-- R283. BIT 6,(HL) (0xCB 0x76). -/
def exec_bit_6_atHL (s : State) : Result := bitTestHL .n6 s

/-- R282. BIT 7,B (0xCB 0x78). -/
def exec_bit_7_b (s : State) : Result := bitTestReg .n7 .b s

/-- R282. BIT 7,C (0xCB 0x79). -/
def exec_bit_7_c (s : State) : Result := bitTestReg .n7 .c s

/-- R282. BIT 7,D (0xCB 0x7A). -/
def exec_bit_7_d (s : State) : Result := bitTestReg .n7 .d s

/-- R282. BIT 7,E (0xCB 0x7B). -/
def exec_bit_7_e (s : State) : Result := bitTestReg .n7 .e s

/-- R282. BIT 7,H (0xCB 0x7C). -/
def exec_bit_7_h (s : State) : Result := bitTestReg .n7 .h s

/-- R282. BIT 7,L (0xCB 0x7D). -/
def exec_bit_7_l (s : State) : Result := bitTestReg .n7 .l s

/-- R282. BIT 7,A (0xCB 0x7F). -/
def exec_bit_7_a (s : State) : Result := bitTestReg .n7 .a s

/-- R283. BIT 7,(HL) (0xCB 0x7E). -/
def exec_bit_7_atHL (s : State) : Result := bitTestHL .n7 s

/-- R284. RES 0,B (0xCB 0x80). -/
def exec_res_0_b (s : State) : Result := bitResetReg .n0 .b s

/-- R284. RES 0,C (0xCB 0x81). -/
def exec_res_0_c (s : State) : Result := bitResetReg .n0 .c s

/-- R284. RES 0,D (0xCB 0x82). -/
def exec_res_0_d (s : State) : Result := bitResetReg .n0 .d s

/-- R284. RES 0,E (0xCB 0x83). -/
def exec_res_0_e (s : State) : Result := bitResetReg .n0 .e s

/-- R284. RES 0,H (0xCB 0x84). -/
def exec_res_0_h (s : State) : Result := bitResetReg .n0 .h s

/-- R284. RES 0,L (0xCB 0x85). -/
def exec_res_0_l (s : State) : Result := bitResetReg .n0 .l s

/-- R284. RES 0,A (0xCB 0x87). -/
def exec_res_0_a (s : State) : Result := bitResetReg .n0 .a s

/-- R285. RES 0,(HL) (0xCB 0x86). -/
def exec_res_0_atHL (s : State) : Result := bitResetHL .n0 s

/-- R284. RES 1,B (0xCB 0x88). -/
def exec_res_1_b (s : State) : Result := bitResetReg .n1 .b s

/-- R284. RES 1,C (0xCB 0x89). -/
def exec_res_1_c (s : State) : Result := bitResetReg .n1 .c s

/-- R284. RES 1,D (0xCB 0x8A). -/
def exec_res_1_d (s : State) : Result := bitResetReg .n1 .d s

/-- R284. RES 1,E (0xCB 0x8B). -/
def exec_res_1_e (s : State) : Result := bitResetReg .n1 .e s

/-- R284. RES 1,H (0xCB 0x8C). -/
def exec_res_1_h (s : State) : Result := bitResetReg .n1 .h s

/-- R284. RES 1,L (0xCB 0x8D). -/
def exec_res_1_l (s : State) : Result := bitResetReg .n1 .l s

/-- R284. RES 1,A (0xCB 0x8F). -/
def exec_res_1_a (s : State) : Result := bitResetReg .n1 .a s

/-- R285. RES 1,(HL) (0xCB 0x8E). -/
def exec_res_1_atHL (s : State) : Result := bitResetHL .n1 s

/-- R284. RES 2,B (0xCB 0x90). -/
def exec_res_2_b (s : State) : Result := bitResetReg .n2 .b s

/-- R284. RES 2,C (0xCB 0x91). -/
def exec_res_2_c (s : State) : Result := bitResetReg .n2 .c s

/-- R284. RES 2,D (0xCB 0x92). -/
def exec_res_2_d (s : State) : Result := bitResetReg .n2 .d s

/-- R284. RES 2,E (0xCB 0x93). -/
def exec_res_2_e (s : State) : Result := bitResetReg .n2 .e s

/-- R284. RES 2,H (0xCB 0x94). -/
def exec_res_2_h (s : State) : Result := bitResetReg .n2 .h s

/-- R284. RES 2,L (0xCB 0x95). -/
def exec_res_2_l (s : State) : Result := bitResetReg .n2 .l s

/-- R284. RES 2,A (0xCB 0x97). -/
def exec_res_2_a (s : State) : Result := bitResetReg .n2 .a s

/-- R285. RES 2,(HL) (0xCB 0x96). -/
def exec_res_2_atHL (s : State) : Result := bitResetHL .n2 s

/-- R284. RES 3,B (0xCB 0x98). -/
def exec_res_3_b (s : State) : Result := bitResetReg .n3 .b s

/-- R284. RES 3,C (0xCB 0x99). -/
def exec_res_3_c (s : State) : Result := bitResetReg .n3 .c s

/-- R284. RES 3,D (0xCB 0x9A). -/
def exec_res_3_d (s : State) : Result := bitResetReg .n3 .d s

/-- R284. RES 3,E (0xCB 0x9B). -/
def exec_res_3_e (s : State) : Result := bitResetReg .n3 .e s

/-- R284. RES 3,H (0xCB 0x9C). -/
def exec_res_3_h (s : State) : Result := bitResetReg .n3 .h s

/-- R284. RES 3,L (0xCB 0x9D). -/
def exec_res_3_l (s : State) : Result := bitResetReg .n3 .l s

/-- R284. RES 3,A (0xCB 0x9F). -/
def exec_res_3_a (s : State) : Result := bitResetReg .n3 .a s

/-- R285. RES 3,(HL) (0xCB 0x9E). -/
def exec_res_3_atHL (s : State) : Result := bitResetHL .n3 s

/-- R284. RES 4,B (0xCB 0xA0). -/
def exec_res_4_b (s : State) : Result := bitResetReg .n4 .b s

/-- R284. RES 4,C (0xCB 0xA1). -/
def exec_res_4_c (s : State) : Result := bitResetReg .n4 .c s

/-- R284. RES 4,D (0xCB 0xA2). -/
def exec_res_4_d (s : State) : Result := bitResetReg .n4 .d s

/-- R284. RES 4,E (0xCB 0xA3). -/
def exec_res_4_e (s : State) : Result := bitResetReg .n4 .e s

/-- R284. RES 4,H (0xCB 0xA4). -/
def exec_res_4_h (s : State) : Result := bitResetReg .n4 .h s

/-- R284. RES 4,L (0xCB 0xA5). -/
def exec_res_4_l (s : State) : Result := bitResetReg .n4 .l s

/-- R284. RES 4,A (0xCB 0xA7). -/
def exec_res_4_a (s : State) : Result := bitResetReg .n4 .a s

/-- R285. RES 4,(HL) (0xCB 0xA6). -/
def exec_res_4_atHL (s : State) : Result := bitResetHL .n4 s

/-- R284. RES 5,B (0xCB 0xA8). -/
def exec_res_5_b (s : State) : Result := bitResetReg .n5 .b s

/-- R284. RES 5,C (0xCB 0xA9). -/
def exec_res_5_c (s : State) : Result := bitResetReg .n5 .c s

/-- R284. RES 5,D (0xCB 0xAA). -/
def exec_res_5_d (s : State) : Result := bitResetReg .n5 .d s

/-- R284. RES 5,E (0xCB 0xAB). -/
def exec_res_5_e (s : State) : Result := bitResetReg .n5 .e s

/-- R284. RES 5,H (0xCB 0xAC). -/
def exec_res_5_h (s : State) : Result := bitResetReg .n5 .h s

/-- R284. RES 5,L (0xCB 0xAD). -/
def exec_res_5_l (s : State) : Result := bitResetReg .n5 .l s

/-- R284. RES 5,A (0xCB 0xAF). -/
def exec_res_5_a (s : State) : Result := bitResetReg .n5 .a s

/-- R285. RES 5,(HL) (0xCB 0xAE). -/
def exec_res_5_atHL (s : State) : Result := bitResetHL .n5 s

/-- R284. RES 6,B (0xCB 0xB0). -/
def exec_res_6_b (s : State) : Result := bitResetReg .n6 .b s

/-- R284. RES 6,C (0xCB 0xB1). -/
def exec_res_6_c (s : State) : Result := bitResetReg .n6 .c s

/-- R284. RES 6,D (0xCB 0xB2). -/
def exec_res_6_d (s : State) : Result := bitResetReg .n6 .d s

/-- R284. RES 6,E (0xCB 0xB3). -/
def exec_res_6_e (s : State) : Result := bitResetReg .n6 .e s

/-- R284. RES 6,H (0xCB 0xB4). -/
def exec_res_6_h (s : State) : Result := bitResetReg .n6 .h s

/-- R284. RES 6,L (0xCB 0xB5). -/
def exec_res_6_l (s : State) : Result := bitResetReg .n6 .l s

/-- R284. RES 6,A (0xCB 0xB7). -/
def exec_res_6_a (s : State) : Result := bitResetReg .n6 .a s

/-- R285. RES 6,(HL) (0xCB 0xB6). -/
def exec_res_6_atHL (s : State) : Result := bitResetHL .n6 s

/-- R284. RES 7,B (0xCB 0xB8). -/
def exec_res_7_b (s : State) : Result := bitResetReg .n7 .b s

/-- R284. RES 7,C (0xCB 0xB9). -/
def exec_res_7_c (s : State) : Result := bitResetReg .n7 .c s

/-- R284. RES 7,D (0xCB 0xBA). -/
def exec_res_7_d (s : State) : Result := bitResetReg .n7 .d s

/-- R284. RES 7,E (0xCB 0xBB). -/
def exec_res_7_e (s : State) : Result := bitResetReg .n7 .e s

/-- R284. RES 7,H (0xCB 0xBC). -/
def exec_res_7_h (s : State) : Result := bitResetReg .n7 .h s

/-- R284. RES 7,L (0xCB 0xBD). -/
def exec_res_7_l (s : State) : Result := bitResetReg .n7 .l s

/-- R284. RES 7,A (0xCB 0xBF). -/
def exec_res_7_a (s : State) : Result := bitResetReg .n7 .a s

/-- R285. RES 7,(HL) (0xCB 0xBE). -/
def exec_res_7_atHL (s : State) : Result := bitResetHL .n7 s

/-- R286. SET 0,B (0xCB 0xC0). -/
def exec_set_0_b (s : State) : Result := bitSetReg .n0 .b s

/-- R286. SET 0,C (0xCB 0xC1). -/
def exec_set_0_c (s : State) : Result := bitSetReg .n0 .c s

/-- R286. SET 0,D (0xCB 0xC2). -/
def exec_set_0_d (s : State) : Result := bitSetReg .n0 .d s

/-- R286. SET 0,E (0xCB 0xC3). -/
def exec_set_0_e (s : State) : Result := bitSetReg .n0 .e s

/-- R286. SET 0,H (0xCB 0xC4). -/
def exec_set_0_h (s : State) : Result := bitSetReg .n0 .h s

/-- R286. SET 0,L (0xCB 0xC5). -/
def exec_set_0_l (s : State) : Result := bitSetReg .n0 .l s

/-- R286. SET 0,A (0xCB 0xC7). -/
def exec_set_0_a (s : State) : Result := bitSetReg .n0 .a s

/-- R287. SET 0,(HL) (0xCB 0xC6). -/
def exec_set_0_atHL (s : State) : Result := bitSetHL .n0 s

/-- R286. SET 1,B (0xCB 0xC8). -/
def exec_set_1_b (s : State) : Result := bitSetReg .n1 .b s

/-- R286. SET 1,C (0xCB 0xC9). -/
def exec_set_1_c (s : State) : Result := bitSetReg .n1 .c s

/-- R286. SET 1,D (0xCB 0xCA). -/
def exec_set_1_d (s : State) : Result := bitSetReg .n1 .d s

/-- R286. SET 1,E (0xCB 0xCB). -/
def exec_set_1_e (s : State) : Result := bitSetReg .n1 .e s

/-- R286. SET 1,H (0xCB 0xCC). -/
def exec_set_1_h (s : State) : Result := bitSetReg .n1 .h s

/-- R286. SET 1,L (0xCB 0xCD). -/
def exec_set_1_l (s : State) : Result := bitSetReg .n1 .l s

/-- R286. SET 1,A (0xCB 0xCF). -/
def exec_set_1_a (s : State) : Result := bitSetReg .n1 .a s

/-- R287. SET 1,(HL) (0xCB 0xCE). -/
def exec_set_1_atHL (s : State) : Result := bitSetHL .n1 s

/-- R286. SET 2,B (0xCB 0xD0). -/
def exec_set_2_b (s : State) : Result := bitSetReg .n2 .b s

/-- R286. SET 2,C (0xCB 0xD1). -/
def exec_set_2_c (s : State) : Result := bitSetReg .n2 .c s

/-- R286. SET 2,D (0xCB 0xD2). -/
def exec_set_2_d (s : State) : Result := bitSetReg .n2 .d s

/-- R286. SET 2,E (0xCB 0xD3). -/
def exec_set_2_e (s : State) : Result := bitSetReg .n2 .e s

/-- R286. SET 2,H (0xCB 0xD4). -/
def exec_set_2_h (s : State) : Result := bitSetReg .n2 .h s

/-- R286. SET 2,L (0xCB 0xD5). -/
def exec_set_2_l (s : State) : Result := bitSetReg .n2 .l s

/-- R286. SET 2,A (0xCB 0xD7). -/
def exec_set_2_a (s : State) : Result := bitSetReg .n2 .a s

/-- R287. SET 2,(HL) (0xCB 0xD6). -/
def exec_set_2_atHL (s : State) : Result := bitSetHL .n2 s

/-- R286. SET 3,B (0xCB 0xD8). -/
def exec_set_3_b (s : State) : Result := bitSetReg .n3 .b s

/-- R286. SET 3,C (0xCB 0xD9). -/
def exec_set_3_c (s : State) : Result := bitSetReg .n3 .c s

/-- R286. SET 3,D (0xCB 0xDA). -/
def exec_set_3_d (s : State) : Result := bitSetReg .n3 .d s

/-- R286. SET 3,E (0xCB 0xDB). -/
def exec_set_3_e (s : State) : Result := bitSetReg .n3 .e s

/-- R286. SET 3,H (0xCB 0xDC). -/
def exec_set_3_h (s : State) : Result := bitSetReg .n3 .h s

/-- R286. SET 3,L (0xCB 0xDD). -/
def exec_set_3_l (s : State) : Result := bitSetReg .n3 .l s

/-- R286. SET 3,A (0xCB 0xDF). -/
def exec_set_3_a (s : State) : Result := bitSetReg .n3 .a s

/-- R287. SET 3,(HL) (0xCB 0xDE). -/
def exec_set_3_atHL (s : State) : Result := bitSetHL .n3 s

/-- R286. SET 4,B (0xCB 0xE0). -/
def exec_set_4_b (s : State) : Result := bitSetReg .n4 .b s

/-- R286. SET 4,C (0xCB 0xE1). -/
def exec_set_4_c (s : State) : Result := bitSetReg .n4 .c s

/-- R286. SET 4,D (0xCB 0xE2). -/
def exec_set_4_d (s : State) : Result := bitSetReg .n4 .d s

/-- R286. SET 4,E (0xCB 0xE3). -/
def exec_set_4_e (s : State) : Result := bitSetReg .n4 .e s

/-- R286. SET 4,H (0xCB 0xE4). -/
def exec_set_4_h (s : State) : Result := bitSetReg .n4 .h s

/-- R286. SET 4,L (0xCB 0xE5). -/
def exec_set_4_l (s : State) : Result := bitSetReg .n4 .l s

/-- R286. SET 4,A (0xCB 0xE7). -/
def exec_set_4_a (s : State) : Result := bitSetReg .n4 .a s

/-- R287. SET 4,(HL) (0xCB 0xE6). -/
def exec_set_4_atHL (s : State) : Result := bitSetHL .n4 s

/-- R286. SET 5,B (0xCB 0xE8). -/
def exec_set_5_b (s : State) : Result := bitSetReg .n5 .b s

/-- R286. SET 5,C (0xCB 0xE9). -/
def exec_set_5_c (s : State) : Result := bitSetReg .n5 .c s

/-- R286. SET 5,D (0xCB 0xEA). -/
def exec_set_5_d (s : State) : Result := bitSetReg .n5 .d s

/-- R286. SET 5,E (0xCB 0xEB). -/
def exec_set_5_e (s : State) : Result := bitSetReg .n5 .e s

/-- R286. SET 5,H (0xCB 0xEC). -/
def exec_set_5_h (s : State) : Result := bitSetReg .n5 .h s

/-- R286. SET 5,L (0xCB 0xED). -/
def exec_set_5_l (s : State) : Result := bitSetReg .n5 .l s

/-- R286. SET 5,A (0xCB 0xEF). -/
def exec_set_5_a (s : State) : Result := bitSetReg .n5 .a s

/-- R287. SET 5,(HL) (0xCB 0xEE). -/
def exec_set_5_atHL (s : State) : Result := bitSetHL .n5 s

/-- R286. SET 6,B (0xCB 0xF0). -/
def exec_set_6_b (s : State) : Result := bitSetReg .n6 .b s

/-- R286. SET 6,C (0xCB 0xF1). -/
def exec_set_6_c (s : State) : Result := bitSetReg .n6 .c s

/-- R286. SET 6,D (0xCB 0xF2). -/
def exec_set_6_d (s : State) : Result := bitSetReg .n6 .d s

/-- R286. SET 6,E (0xCB 0xF3). -/
def exec_set_6_e (s : State) : Result := bitSetReg .n6 .e s

/-- R286. SET 6,H (0xCB 0xF4). -/
def exec_set_6_h (s : State) : Result := bitSetReg .n6 .h s

/-- R286. SET 6,L (0xCB 0xF5). -/
def exec_set_6_l (s : State) : Result := bitSetReg .n6 .l s

/-- R286. SET 6,A (0xCB 0xF7). -/
def exec_set_6_a (s : State) : Result := bitSetReg .n6 .a s

/-- R287. SET 6,(HL) (0xCB 0xF6). -/
def exec_set_6_atHL (s : State) : Result := bitSetHL .n6 s

/-- R286. SET 7,B (0xCB 0xF8). -/
def exec_set_7_b (s : State) : Result := bitSetReg .n7 .b s

/-- R286. SET 7,C (0xCB 0xF9). -/
def exec_set_7_c (s : State) : Result := bitSetReg .n7 .c s

/-- R286. SET 7,D (0xCB 0xFA). -/
def exec_set_7_d (s : State) : Result := bitSetReg .n7 .d s

/-- R286. SET 7,E (0xCB 0xFB). -/
def exec_set_7_e (s : State) : Result := bitSetReg .n7 .e s

/-- R286. SET 7,H (0xCB 0xFC). -/
def exec_set_7_h (s : State) : Result := bitSetReg .n7 .h s

/-- R286. SET 7,L (0xCB 0xFD). -/
def exec_set_7_l (s : State) : Result := bitSetReg .n7 .l s

/-- R286. SET 7,A (0xCB 0xFF). -/
def exec_set_7_a (s : State) : Result := bitSetReg .n7 .a s

/-- R287. SET 7,(HL) (0xCB 0xFE). -/
def exec_set_7_atHL (s : State) : Result := bitSetHL .n7 s

end Sys2Proof.Machine
end

