-- ==== Sys2Proof/Machine/Control.lean ====
section
/-! DEFINITION. The control transfers (45_control.md). No flag is written; a target is never checked (R290, R301). -/

namespace Sys2Proof.Machine

/-- The target of a relative jump: the address after the two bytes, plus the signed offset (R294). -/
def relativeTarget (s : State) (e : Byte) : Word := s.pc + 2 + signExtend16 e

/-- R292. -/
def jpCond (cc : Cond) (nn : Word) (s : State) : Result :=
  if s.holds cc then .next ((s.advance 3 16).jump nn) else .next (s.advance 3 12)

/-- R295. -/
def jrCond (cc : Cond) (e : Byte) (s : State) : Result :=
  if s.holds cc then .next ((s.advance 2 12).jump (relativeTarget s e)) else .next (s.advance 2 8)

/-- `Push16(pc); pc <- target` with `pc` the address after the instruction's `len` bytes (R296, R303). -/
def callTo (target : Word) (len cost : Nat) (s : State) : State :=
  let t := s.advance len cost
  (t.push16 t.pc).jump target

/-- R297: not taken touches neither SP nor memory. -/
def callCond (cc : Cond) (nn : Word) (s : State) : Result :=
  if s.holds cc then .next (callTo nn 3 24 s) else .next (s.advance 3 12)

/-- R299. -/
def retCond (cc : Cond) (s : State) : Result :=
  if s.holds cc then .next (returnFromCall (s.advance 1 20)) else .next (s.advance 1 8)

/-- R303: `Push16(pc); pc <- 8 * y`. -/
def rstTo (k : Bit3) (s : State) : Result := .next (callTo (BitVec.ofNat 16 (8 * k.toNat)) 1 16 s)

/-- R291. JP a16 (0xC3). -/
def exec_jp_a16 (nn : Word) (s : State) : Result :=
  .next ((s.advance 3 16).jump nn)

/-- R292. JP NZ,a16 (0xC2). -/
def exec_jp_nz_a16 (nn : Word) (s : State) : Result := jpCond .nz nn s

/-- R292. JP Z,a16 (0xCA). -/
def exec_jp_z_a16 (nn : Word) (s : State) : Result := jpCond .z nn s

/-- R292. JP NC,a16 (0xD2). -/
def exec_jp_nc_a16 (nn : Word) (s : State) : Result := jpCond .nc nn s

/-- R292. JP C,a16 (0xDA). -/
def exec_jp_c_a16 (nn : Word) (s : State) : Result := jpCond .c nn s

/-- R293. JP HL (0xE9). -/
def exec_jp_hl (s : State) : Result :=
  .next ((s.advance 1 4).jump s.hl)

/-- R294. JR e8 (0x18). -/
def exec_jr_e8 (e : Byte) (s : State) : Result :=
  .next ((s.advance 2 12).jump (relativeTarget s e))

/-- R295. JR NZ,e8 (0x20). -/
def exec_jr_nz_e8 (e : Byte) (s : State) : Result := jrCond .nz e s

/-- R295. JR Z,e8 (0x28). -/
def exec_jr_z_e8 (e : Byte) (s : State) : Result := jrCond .z e s

/-- R295. JR NC,e8 (0x30). -/
def exec_jr_nc_e8 (e : Byte) (s : State) : Result := jrCond .nc e s

/-- R295. JR C,e8 (0x38). -/
def exec_jr_c_e8 (e : Byte) (s : State) : Result := jrCond .c e s

/-- R296. CALL a16 (0xCD). -/
def exec_call_a16 (nn : Word) (s : State) : Result :=
  .next (callTo nn 3 24 s)

/-- R297. CALL NZ,a16 (0xC4). -/
def exec_call_nz_a16 (nn : Word) (s : State) : Result := callCond .nz nn s

/-- R297. CALL Z,a16 (0xCC). -/
def exec_call_z_a16 (nn : Word) (s : State) : Result := callCond .z nn s

/-- R297. CALL NC,a16 (0xD4). -/
def exec_call_nc_a16 (nn : Word) (s : State) : Result := callCond .nc nn s

/-- R297. CALL C,a16 (0xDC). -/
def exec_call_c_a16 (nn : Word) (s : State) : Result := callCond .c nn s

/-- R298. RET (0xC9). -/
def exec_ret (s : State) : Result :=
  .next (returnFromCall (s.advance 1 16))

/-- R299. RET NZ (0xC0). -/
def exec_ret_nz (s : State) : Result := retCond .nz s

/-- R299. RET Z (0xC8). -/
def exec_ret_z (s : State) : Result := retCond .z s

/-- R299. RET NC (0xD0). -/
def exec_ret_nc (s : State) : Result := retCond .nc s

/-- R299. RET C (0xD8). -/
def exec_ret_c (s : State) : Result := retCond .c s

/-- R300. RETI (0xD9). -/
def exec_reti (s : State) : Result :=
  .next (returnFromInterrupt (s.advance 1 16))

/-- R303. RST 0x00 (0xC7). -/
def exec_rst_00 (s : State) : Result := rstTo .n0 s

/-- R303. RST 0x08 (0xCF). -/
def exec_rst_08 (s : State) : Result := rstTo .n1 s

/-- R303. RST 0x10 (0xD7). -/
def exec_rst_10 (s : State) : Result := rstTo .n2 s

/-- R303. RST 0x18 (0xDF). -/
def exec_rst_18 (s : State) : Result := rstTo .n3 s

/-- R303. RST 0x20 (0xE7). -/
def exec_rst_20 (s : State) : Result := rstTo .n4 s

/-- R303. RST 0x28 (0xEF). -/
def exec_rst_28 (s : State) : Result := rstTo .n5 s

/-- R303. RST 0x30 (0xF7). -/
def exec_rst_30 (s : State) : Result := rstTo .n6 s

/-- R303. RST 0x38 (0xFF). -/
def exec_rst_38 (s : State) : Result := rstTo .n7 s

end Sys2Proof.Machine
end

