-- ==== Sys2Proof/Machine/Load16.lean ====
section
/-! DEFINITION. The 16-bit loads and the stack instructions (41_load16.md). -/

namespace Sys2Proof.Machine

/-- R200: `rp(p) <- nn`. -/
def ldPairImm (p : RegPair) (nn : Word) (s : State) : Result := .next ((s.advance 3 12).setPair p nn)

/-- R203: `Push16(rp2(p))`. -/
def pushPair (p : StackPair) (s : State) : Result := .next ((s.advance 1 16).push16 (s.stackPair p))

/-- R204: `rp2(p) <- Pop16()`. -/
def popPair (p : StackPair) (s : State) : Result :=
  .next (((s.advance 1 12).popped).setStackPair p s.popValue)

/-- R200. LD BC,d16 (0x01). -/
def exec_ld_bc_d16 (nn : Word) (s : State) : Result := ldPairImm .bc nn s

/-- R200. LD DE,d16 (0x11). -/
def exec_ld_de_d16 (nn : Word) (s : State) : Result := ldPairImm .de nn s

/-- R200. LD HL,d16 (0x21). -/
def exec_ld_hl_d16 (nn : Word) (s : State) : Result := ldPairImm .hl nn s

/-- R200. LD SP,d16 (0x31). -/
def exec_ld_sp_d16 (nn : Word) (s : State) : Result := ldPairImm .sp nn s

/-- R201. LD (a16),SP (0x08). -/
def exec_ld_atA16_sp (nn : Word) (s : State) : Result :=
  .next ((s.advance 3 20).memWrite16 nn s.sp)

/-- R202. LD SP,HL (0xF9). -/
def exec_ld_sp_hl (s : State) : Result :=
  .next { s.advance 1 8 with sp := s.hl }

/-- R203. PUSH BC (0xC5). -/
def exec_push_bc (s : State) : Result := pushPair .bc s

/-- R203. PUSH DE (0xD5). -/
def exec_push_de (s : State) : Result := pushPair .de s

/-- R203. PUSH HL (0xE5). -/
def exec_push_hl (s : State) : Result := pushPair .hl s

/-- R203. PUSH AF (0xF5). -/
def exec_push_af (s : State) : Result := pushPair .af s

/-- R204. POP BC (0xC1). -/
def exec_pop_bc (s : State) : Result := popPair .bc s

/-- R204. POP DE (0xD1). -/
def exec_pop_de (s : State) : Result := popPair .de s

/-- R204. POP HL (0xE1). -/
def exec_pop_hl (s : State) : Result := popPair .hl s

/-- R204. POP AF (0xF1). -/
def exec_pop_af (s : State) : Result := popPair .af s

/-- R205. LD HL,SP+e8 (0xF8). -/
def exec_ld_hl_sp_e8 (e : Byte) (s : State) : Result :=
  let r := spRel s.cfg.sprelFlags s.sp e
  .next (((s.advance 2 12).setHL r.res).setFlags false false r.h r.c)

end Sys2Proof.Machine
end

