-- ==== Sys2Proof/Machine/Load8.lean ====
section
/-! DEFINITION. The 8-bit loads (40_load8.md). No flag is read or written (R189); memory operands go through the bus. -/

namespace Sys2Proof.Machine

/-- R170: `R8(y) <- R8(z)`. -/
def ldReg (rd rs : Reg8) (s : State) : Result := .next ((s.advance 1 4).setReg rd (s.reg rs))

/-- R171: `R8(y) <- n`. -/
def ldImm (rd : Reg8) (n : Byte) (s : State) : Result := .next ((s.advance 2 8).setReg rd n)

/-- R172: `R8(y) <- MemRead(x[HL], 1)`. -/
def ldFromHL (rd : Reg8) (s : State) : Result := .next ((s.advance 1 8).setReg rd (s.memRead s.hl))

/-- R173: `MemWrite(x[HL], 1, R8(z))`. -/
def ldToHL (rs : Reg8) (s : State) : Result := .next ((s.advance 1 8).memWrite s.hl (s.reg rs))

/-- R175, R176, R185, R187: `x[A] <- MemRead(pointer, 1)`, then the pointer moves. -/
def ldAFrom (p : Pointer) (s : State) : Result :=
  .next (((s.advance 1 8).setReg .a (s.memRead (s.pointer p))).movePointer p)

/-- R177, R178, R186, R188: `MemWrite(pointer, 1, x[A])`, then the pointer moves. -/
def ldATo (p : Pointer) (s : State) : Result :=
  .next (((s.advance 1 8).memWrite (s.pointer p) s.a).movePointer p)

/-- R179, R181, R183: `x[A] <- MemRead(addr, 1)`. -/
def ldAAbs (addr : Word) (len cost : Nat) (s : State) : Result :=
  .next ((s.advance len cost).setReg .a (s.memRead addr))

/-- R180, R182, R184: `MemWrite(addr, 1, x[A])`. -/
def stAAbs (addr : Word) (len cost : Nat) (s : State) : Result :=
  .next ((s.advance len cost).memWrite addr s.a)

/-- R170. LD B,B (0x40). -/
def exec_ld_b_b (s : State) : Result := ldReg .b .b s

/-- R170. LD B,C (0x41). -/
def exec_ld_b_c (s : State) : Result := ldReg .b .c s

/-- R170. LD B,D (0x42). -/
def exec_ld_b_d (s : State) : Result := ldReg .b .d s

/-- R170. LD B,E (0x43). -/
def exec_ld_b_e (s : State) : Result := ldReg .b .e s

/-- R170. LD B,H (0x44). -/
def exec_ld_b_h (s : State) : Result := ldReg .b .h s

/-- R170. LD B,L (0x45). -/
def exec_ld_b_l (s : State) : Result := ldReg .b .l s

/-- R170. LD B,A (0x47). -/
def exec_ld_b_a (s : State) : Result := ldReg .b .a s

/-- R170. LD C,B (0x48). -/
def exec_ld_c_b (s : State) : Result := ldReg .c .b s

/-- R170. LD C,C (0x49). -/
def exec_ld_c_c (s : State) : Result := ldReg .c .c s

/-- R170. LD C,D (0x4A). -/
def exec_ld_c_d (s : State) : Result := ldReg .c .d s

/-- R170. LD C,E (0x4B). -/
def exec_ld_c_e (s : State) : Result := ldReg .c .e s

/-- R170. LD C,H (0x4C). -/
def exec_ld_c_h (s : State) : Result := ldReg .c .h s

/-- R170. LD C,L (0x4D). -/
def exec_ld_c_l (s : State) : Result := ldReg .c .l s

/-- R170. LD C,A (0x4F). -/
def exec_ld_c_a (s : State) : Result := ldReg .c .a s

/-- R170. LD D,B (0x50). -/
def exec_ld_d_b (s : State) : Result := ldReg .d .b s

/-- R170. LD D,C (0x51). -/
def exec_ld_d_c (s : State) : Result := ldReg .d .c s

/-- R170. LD D,D (0x52). -/
def exec_ld_d_d (s : State) : Result := ldReg .d .d s

/-- R170. LD D,E (0x53). -/
def exec_ld_d_e (s : State) : Result := ldReg .d .e s

/-- R170. LD D,H (0x54). -/
def exec_ld_d_h (s : State) : Result := ldReg .d .h s

/-- R170. LD D,L (0x55). -/
def exec_ld_d_l (s : State) : Result := ldReg .d .l s

/-- R170. LD D,A (0x57). -/
def exec_ld_d_a (s : State) : Result := ldReg .d .a s

/-- R170. LD E,B (0x58). -/
def exec_ld_e_b (s : State) : Result := ldReg .e .b s

/-- R170. LD E,C (0x59). -/
def exec_ld_e_c (s : State) : Result := ldReg .e .c s

/-- R170. LD E,D (0x5A). -/
def exec_ld_e_d (s : State) : Result := ldReg .e .d s

/-- R170. LD E,E (0x5B). -/
def exec_ld_e_e (s : State) : Result := ldReg .e .e s

/-- R170. LD E,H (0x5C). -/
def exec_ld_e_h (s : State) : Result := ldReg .e .h s

/-- R170. LD E,L (0x5D). -/
def exec_ld_e_l (s : State) : Result := ldReg .e .l s

/-- R170. LD E,A (0x5F). -/
def exec_ld_e_a (s : State) : Result := ldReg .e .a s

/-- R170. LD H,B (0x60). -/
def exec_ld_h_b (s : State) : Result := ldReg .h .b s

/-- R170. LD H,C (0x61). -/
def exec_ld_h_c (s : State) : Result := ldReg .h .c s

/-- R170. LD H,D (0x62). -/
def exec_ld_h_d (s : State) : Result := ldReg .h .d s

/-- R170. LD H,E (0x63). -/
def exec_ld_h_e (s : State) : Result := ldReg .h .e s

/-- R170. LD H,H (0x64). -/
def exec_ld_h_h (s : State) : Result := ldReg .h .h s

/-- R170. LD H,L (0x65). -/
def exec_ld_h_l (s : State) : Result := ldReg .h .l s

/-- R170. LD H,A (0x67). -/
def exec_ld_h_a (s : State) : Result := ldReg .h .a s

/-- R170. LD L,B (0x68). -/
def exec_ld_l_b (s : State) : Result := ldReg .l .b s

/-- R170. LD L,C (0x69). -/
def exec_ld_l_c (s : State) : Result := ldReg .l .c s

/-- R170. LD L,D (0x6A). -/
def exec_ld_l_d (s : State) : Result := ldReg .l .d s

/-- R170. LD L,E (0x6B). -/
def exec_ld_l_e (s : State) : Result := ldReg .l .e s

/-- R170. LD L,H (0x6C). -/
def exec_ld_l_h (s : State) : Result := ldReg .l .h s

/-- R170. LD L,L (0x6D). -/
def exec_ld_l_l (s : State) : Result := ldReg .l .l s

/-- R170. LD L,A (0x6F). -/
def exec_ld_l_a (s : State) : Result := ldReg .l .a s

/-- R170. LD A,B (0x78). -/
def exec_ld_a_b (s : State) : Result := ldReg .a .b s

/-- R170. LD A,C (0x79). -/
def exec_ld_a_c (s : State) : Result := ldReg .a .c s

/-- R170. LD A,D (0x7A). -/
def exec_ld_a_d (s : State) : Result := ldReg .a .d s

/-- R170. LD A,E (0x7B). -/
def exec_ld_a_e (s : State) : Result := ldReg .a .e s

/-- R170. LD A,H (0x7C). -/
def exec_ld_a_h (s : State) : Result := ldReg .a .h s

/-- R170. LD A,L (0x7D). -/
def exec_ld_a_l (s : State) : Result := ldReg .a .l s

/-- R170. LD A,A (0x7F). -/
def exec_ld_a_a (s : State) : Result := ldReg .a .a s

/-- R171. LD B,d8 (0x06). -/
def exec_ld_b_d8 (n : Byte) (s : State) : Result := ldImm .b n s

/-- R171. LD C,d8 (0x0E). -/
def exec_ld_c_d8 (n : Byte) (s : State) : Result := ldImm .c n s

/-- R171. LD D,d8 (0x16). -/
def exec_ld_d_d8 (n : Byte) (s : State) : Result := ldImm .d n s

/-- R171. LD E,d8 (0x1E). -/
def exec_ld_e_d8 (n : Byte) (s : State) : Result := ldImm .e n s

/-- R171. LD H,d8 (0x26). -/
def exec_ld_h_d8 (n : Byte) (s : State) : Result := ldImm .h n s

/-- R171. LD L,d8 (0x2E). -/
def exec_ld_l_d8 (n : Byte) (s : State) : Result := ldImm .l n s

/-- R171. LD A,d8 (0x3E). -/
def exec_ld_a_d8 (n : Byte) (s : State) : Result := ldImm .a n s

/-- R172. LD B,(HL) (0x46). -/
def exec_ld_b_atHL (s : State) : Result := ldFromHL .b s

/-- R172. LD C,(HL) (0x4E). -/
def exec_ld_c_atHL (s : State) : Result := ldFromHL .c s

/-- R172. LD D,(HL) (0x56). -/
def exec_ld_d_atHL (s : State) : Result := ldFromHL .d s

/-- R172. LD E,(HL) (0x5E). -/
def exec_ld_e_atHL (s : State) : Result := ldFromHL .e s

/-- R172. LD H,(HL) (0x66). -/
def exec_ld_h_atHL (s : State) : Result := ldFromHL .h s

/-- R172. LD L,(HL) (0x6E). -/
def exec_ld_l_atHL (s : State) : Result := ldFromHL .l s

/-- R172. LD A,(HL) (0x7E). -/
def exec_ld_a_atHL (s : State) : Result := ldFromHL .a s

/-- R173. LD (HL),B (0x70). -/
def exec_ld_atHL_b (s : State) : Result := ldToHL .b s

/-- R173. LD (HL),C (0x71). -/
def exec_ld_atHL_c (s : State) : Result := ldToHL .c s

/-- R173. LD (HL),D (0x72). -/
def exec_ld_atHL_d (s : State) : Result := ldToHL .d s

/-- R173. LD (HL),E (0x73). -/
def exec_ld_atHL_e (s : State) : Result := ldToHL .e s

/-- R173. LD (HL),H (0x74). -/
def exec_ld_atHL_h (s : State) : Result := ldToHL .h s

/-- R173. LD (HL),L (0x75). -/
def exec_ld_atHL_l (s : State) : Result := ldToHL .l s

/-- R173. LD (HL),A (0x77). -/
def exec_ld_atHL_a (s : State) : Result := ldToHL .a s

/-- R174. LD (HL),d8 (0x36). -/
def exec_ld_atHL_d8 (n : Byte) (s : State) : Result :=
  .next ((s.advance 2 12).memWrite s.hl n)

/-- R175. LD A,(BC) (0x0A). -/
def exec_ld_a_atBC (s : State) : Result := ldAFrom .bc s

/-- R176. LD A,(DE) (0x1A). -/
def exec_ld_a_atDE (s : State) : Result := ldAFrom .de s

/-- R187. LD A,(HL+) (0x2A). -/
def exec_ld_a_atHLinc (s : State) : Result := ldAFrom .hlInc s

/-- R185. LD A,(HL-) (0x3A). -/
def exec_ld_a_atHLdec (s : State) : Result := ldAFrom .hlDec s

/-- R177. LD (BC),A (0x02). -/
def exec_ld_atBC_a (s : State) : Result := ldATo .bc s

/-- R178. LD (DE),A (0x12). -/
def exec_ld_atDE_a (s : State) : Result := ldATo .de s

/-- R188. LD (HL+),A (0x22). -/
def exec_ld_atHLinc_a (s : State) : Result := ldATo .hlInc s

/-- R186. LD (HL-),A (0x32). -/
def exec_ld_atHLdec_a (s : State) : Result := ldATo .hlDec s

/-- R179. LD A,(a16) (0xFA). -/
def exec_ld_a_atA16 (nn : Word) (s : State) : Result := ldAAbs nn 3 16 s

/-- R180. LD (a16),A (0xEA). -/
def exec_ld_atA16_a (nn : Word) (s : State) : Result := stAAbs nn 3 16 s

/-- R181. LDH A,(C) (0xF2). -/
def exec_ldh_a_atC (s : State) : Result := ldAAbs (highPage s.c) 1 8 s

/-- R182. LDH (C),A (0xE2). -/
def exec_ldh_atC_a (s : State) : Result := stAAbs (highPage s.c) 1 8 s

/-- R183. LDH A,(a8) (0xF0). -/
def exec_ldh_a_atA8 (n : Byte) (s : State) : Result := ldAAbs (highPage n) 2 12 s

/-- R184. LDH (a8),A (0xE0). -/
def exec_ldh_atA8_a (n : Byte) (s : State) : Result := stAAbs (highPage n) 2 12 s

end Sys2Proof.Machine
end

