-- ==== Sys2Proof/Machine/Misc.lean ====
section
/-! DEFINITION. NOP, HALT, STOP, DI, EI and the eleven illegal bytes (46_misc.md). -/

namespace Sys2Proof.Machine

/-- R310. NOP (0x00). -/
def exec_nop (s : State) : Result :=
  .next (s.advance 1 4)

/-- R311. HALT (0x76). -/
def exec_halt (s : State) : Result :=
  .next { s.advance 1 4 with halted := true }

/-- R312. STOP (0x10). -/
def exec_stop (pad : Byte) (s : State) : Result :=
  match pad, s.cfg.stopMode with
  | _, .nop2 => .next (s.advance 2 4)
  | _, .fatal => .next (raiseFatal 0x10 s)

/-- R313. DI (0xF3). -/
def exec_di (s : State) : Result :=
  .next { s.advance 1 4 with ime := false, eiPending := if s.cfg.eiDelay then false else s.eiPending }

/-- R314. EI (0xFB). -/
def exec_ei (s : State) : Result :=
  if s.cfg.eiDelay then .next { s.advance 1 4 with eiPending := true }
  else .next { s.advance 1 4 with ime := true }

/-- R315. The illegal byte 0xD3 (0xD3). -/
def exec_illegal_D3 (s : State) : Result :=
  .next (raiseFatal 0xD3 s)

/-- R315. The illegal byte 0xDB (0xDB). -/
def exec_illegal_DB (s : State) : Result :=
  .next (raiseFatal 0xDB s)

/-- R315. The illegal byte 0xDD (0xDD). -/
def exec_illegal_DD (s : State) : Result :=
  .next (raiseFatal 0xDD s)

/-- R315. The illegal byte 0xE3 (0xE3). -/
def exec_illegal_E3 (s : State) : Result :=
  .next (raiseFatal 0xE3 s)

/-- R315. The illegal byte 0xE4 (0xE4). -/
def exec_illegal_E4 (s : State) : Result :=
  .next (raiseFatal 0xE4 s)

/-- R315. The illegal byte 0xEB (0xEB). -/
def exec_illegal_EB (s : State) : Result :=
  .next (raiseFatal 0xEB s)

/-- R315. The illegal byte 0xEC (0xEC). -/
def exec_illegal_EC (s : State) : Result :=
  .next (raiseFatal 0xEC s)

/-- R315. The illegal byte 0xED (0xED). -/
def exec_illegal_ED (s : State) : Result :=
  .next (raiseFatal 0xED s)

/-- R315. The illegal byte 0xF4 (0xF4). -/
def exec_illegal_F4 (s : State) : Result :=
  .next (raiseFatal 0xF4 s)

/-- R315. The illegal byte 0xFC (0xFC). -/
def exec_illegal_FC (s : State) : Result :=
  .next (raiseFatal 0xFC s)

/-- R315. The illegal byte 0xFD (0xFD). -/
def exec_illegal_FD (s : State) : Result :=
  .next (raiseFatal 0xFD s)

end Sys2Proof.Machine
end

