-- ==== Sys2Proof/Machine/Rotate.lean ====
section
/-! DEFINITION. The rotates and shifts of the accumulator and of the CB page (44_rotate_shift_bit.md). -/

namespace Sys2Proof.Machine

/-- R261 to R264: the accumulator rotates always clear Z. -/
def rotateA (r : Byte × Bool) (s : State) : Result :=
  .next (((s.advance 1 4).setReg .a r.1).setFlags false false false r.2)

/-- R266 to R280, register operand. -/
def rotateReg (op : RotOp) (r : Reg8) (s : State) : Result :=
  let x := rotate8 op (s.reg r) s.flagC
  .next (((s.advance 2 8).setReg r x.1).setFlags (x.1 == 0) false false x.2)

/-- R267 to R281, operand (HL): one read, one write of the same address. -/
def rotateHL (op : RotOp) (s : State) : Result :=
  let x := rotate8 op (s.memRead s.hl) s.flagC
  .next (((s.advance 2 16).memWrite s.hl x.1).setFlags (x.1 == 0) false false x.2)

/-- R261. RLCA (0x07). -/
def exec_rlca (s : State) : Result := rotateA (rlc8 s.a) s

/-- R262. RRCA (0x0F). -/
def exec_rrca (s : State) : Result := rotateA (rrc8 s.a) s

/-- R263. RLA (0x17). -/
def exec_rla (s : State) : Result := rotateA (rl8 s.a s.flagC) s

/-- R264. RRA (0x1F). -/
def exec_rra (s : State) : Result := rotateA (rr8 s.a s.flagC) s

/-- R266. RLC B (0xCB 0x00). -/
def exec_rlc_b (s : State) : Result := rotateReg .rlc .b s

/-- R266. RLC C (0xCB 0x01). -/
def exec_rlc_c (s : State) : Result := rotateReg .rlc .c s

/-- R266. RLC D (0xCB 0x02). -/
def exec_rlc_d (s : State) : Result := rotateReg .rlc .d s

/-- R266. RLC E (0xCB 0x03). -/
def exec_rlc_e (s : State) : Result := rotateReg .rlc .e s

/-- R266. RLC H (0xCB 0x04). -/
def exec_rlc_h (s : State) : Result := rotateReg .rlc .h s

/-- R266. RLC L (0xCB 0x05). -/
def exec_rlc_l (s : State) : Result := rotateReg .rlc .l s

/-- R266. RLC A (0xCB 0x07). -/
def exec_rlc_a (s : State) : Result := rotateReg .rlc .a s

/-- R267. RLC (HL) (0xCB 0x06). -/
def exec_rlc_atHL (s : State) : Result := rotateHL .rlc s

/-- R268. RRC B (0xCB 0x08). -/
def exec_rrc_b (s : State) : Result := rotateReg .rrc .b s

/-- R268. RRC C (0xCB 0x09). -/
def exec_rrc_c (s : State) : Result := rotateReg .rrc .c s

/-- R268. RRC D (0xCB 0x0A). -/
def exec_rrc_d (s : State) : Result := rotateReg .rrc .d s

/-- R268. RRC E (0xCB 0x0B). -/
def exec_rrc_e (s : State) : Result := rotateReg .rrc .e s

/-- R268. RRC H (0xCB 0x0C). -/
def exec_rrc_h (s : State) : Result := rotateReg .rrc .h s

/-- R268. RRC L (0xCB 0x0D). -/
def exec_rrc_l (s : State) : Result := rotateReg .rrc .l s

/-- R268. RRC A (0xCB 0x0F). -/
def exec_rrc_a (s : State) : Result := rotateReg .rrc .a s

/-- R269. RRC (HL) (0xCB 0x0E). -/
def exec_rrc_atHL (s : State) : Result := rotateHL .rrc s

/-- R270. RL B (0xCB 0x10). -/
def exec_rl_b (s : State) : Result := rotateReg .rl .b s

/-- R270. RL C (0xCB 0x11). -/
def exec_rl_c (s : State) : Result := rotateReg .rl .c s

/-- R270. RL D (0xCB 0x12). -/
def exec_rl_d (s : State) : Result := rotateReg .rl .d s

/-- R270. RL E (0xCB 0x13). -/
def exec_rl_e (s : State) : Result := rotateReg .rl .e s

/-- R270. RL H (0xCB 0x14). -/
def exec_rl_h (s : State) : Result := rotateReg .rl .h s

/-- R270. RL L (0xCB 0x15). -/
def exec_rl_l (s : State) : Result := rotateReg .rl .l s

/-- R270. RL A (0xCB 0x17). -/
def exec_rl_a (s : State) : Result := rotateReg .rl .a s

/-- R271. RL (HL) (0xCB 0x16). -/
def exec_rl_atHL (s : State) : Result := rotateHL .rl s

/-- R272. RR B (0xCB 0x18). -/
def exec_rr_b (s : State) : Result := rotateReg .rr .b s

/-- R272. RR C (0xCB 0x19). -/
def exec_rr_c (s : State) : Result := rotateReg .rr .c s

/-- R272. RR D (0xCB 0x1A). -/
def exec_rr_d (s : State) : Result := rotateReg .rr .d s

/-- R272. RR E (0xCB 0x1B). -/
def exec_rr_e (s : State) : Result := rotateReg .rr .e s

/-- R272. RR H (0xCB 0x1C). -/
def exec_rr_h (s : State) : Result := rotateReg .rr .h s

/-- R272. RR L (0xCB 0x1D). -/
def exec_rr_l (s : State) : Result := rotateReg .rr .l s

/-- R272. RR A (0xCB 0x1F). -/
def exec_rr_a (s : State) : Result := rotateReg .rr .a s

/-- R273. RR (HL) (0xCB 0x1E). -/
def exec_rr_atHL (s : State) : Result := rotateHL .rr s

/-- R274. SLA B (0xCB 0x20). -/
def exec_sla_b (s : State) : Result := rotateReg .sla .b s

/-- R274. SLA C (0xCB 0x21). -/
def exec_sla_c (s : State) : Result := rotateReg .sla .c s

/-- R274. SLA D (0xCB 0x22). -/
def exec_sla_d (s : State) : Result := rotateReg .sla .d s

/-- R274. SLA E (0xCB 0x23). -/
def exec_sla_e (s : State) : Result := rotateReg .sla .e s

/-- R274. SLA H (0xCB 0x24). -/
def exec_sla_h (s : State) : Result := rotateReg .sla .h s

/-- R274. SLA L (0xCB 0x25). -/
def exec_sla_l (s : State) : Result := rotateReg .sla .l s

/-- R274. SLA A (0xCB 0x27). -/
def exec_sla_a (s : State) : Result := rotateReg .sla .a s

/-- R275. SLA (HL) (0xCB 0x26). -/
def exec_sla_atHL (s : State) : Result := rotateHL .sla s

/-- R276. SRA B (0xCB 0x28). -/
def exec_sra_b (s : State) : Result := rotateReg .sra .b s

/-- R276. SRA C (0xCB 0x29). -/
def exec_sra_c (s : State) : Result := rotateReg .sra .c s

/-- R276. SRA D (0xCB 0x2A). -/
def exec_sra_d (s : State) : Result := rotateReg .sra .d s

/-- R276. SRA E (0xCB 0x2B). -/
def exec_sra_e (s : State) : Result := rotateReg .sra .e s

/-- R276. SRA H (0xCB 0x2C). -/
def exec_sra_h (s : State) : Result := rotateReg .sra .h s

/-- R276. SRA L (0xCB 0x2D). -/
def exec_sra_l (s : State) : Result := rotateReg .sra .l s

/-- R276. SRA A (0xCB 0x2F). -/
def exec_sra_a (s : State) : Result := rotateReg .sra .a s

/-- R277. SRA (HL) (0xCB 0x2E). -/
def exec_sra_atHL (s : State) : Result := rotateHL .sra s

/-- R278. SWAP B (0xCB 0x30). -/
def exec_swap_b (s : State) : Result := rotateReg .swap .b s

/-- R278. SWAP C (0xCB 0x31). -/
def exec_swap_c (s : State) : Result := rotateReg .swap .c s

/-- R278. SWAP D (0xCB 0x32). -/
def exec_swap_d (s : State) : Result := rotateReg .swap .d s

/-- R278. SWAP E (0xCB 0x33). -/
def exec_swap_e (s : State) : Result := rotateReg .swap .e s

/-- R278. SWAP H (0xCB 0x34). -/
def exec_swap_h (s : State) : Result := rotateReg .swap .h s

/-- R278. SWAP L (0xCB 0x35). -/
def exec_swap_l (s : State) : Result := rotateReg .swap .l s

/-- R278. SWAP A (0xCB 0x37). -/
def exec_swap_a (s : State) : Result := rotateReg .swap .a s

/-- R279. SWAP (HL) (0xCB 0x36). -/
def exec_swap_atHL (s : State) : Result := rotateHL .swap s

/-- R280. SRL B (0xCB 0x38). -/
def exec_srl_b (s : State) : Result := rotateReg .srl .b s

/-- R280. SRL C (0xCB 0x39). -/
def exec_srl_c (s : State) : Result := rotateReg .srl .c s

/-- R280. SRL D (0xCB 0x3A). -/
def exec_srl_d (s : State) : Result := rotateReg .srl .d s

/-- R280. SRL E (0xCB 0x3B). -/
def exec_srl_e (s : State) : Result := rotateReg .srl .e s

/-- R280. SRL H (0xCB 0x3C). -/
def exec_srl_h (s : State) : Result := rotateReg .srl .h s

/-- R280. SRL L (0xCB 0x3D). -/
def exec_srl_l (s : State) : Result := rotateReg .srl .l s

/-- R280. SRL A (0xCB 0x3F). -/
def exec_srl_a (s : State) : Result := rotateReg .srl .a s

/-- R281. SRL (HL) (0xCB 0x3E). -/
def exec_srl_atHL (s : State) : Result := rotateHL .srl s

end Sys2Proof.Machine
end

