-- ==== Sys2Proof/WellFormed.lean ====
section
/-! DEFINITION. What a well-formed instruction is: one that names an instruction. The operands need no check, because the
type of each is exactly the values its encoding admits; the one check is R156's, which sorts out the eleven illegal bytes. -/

namespace Sys2Proof

/-- The opcode byte of an illegal row; none for a row that names an instruction (R156). -/
def Instr.illegalByte : Instr → Option Byte
  | .illegal_D3 => some 0xD3
  | .illegal_DB => some 0xDB
  | .illegal_DD => some 0xDD
  | .illegal_E3 => some 0xE3
  | .illegal_E4 => some 0xE4
  | .illegal_EB => some 0xEB
  | .illegal_EC => some 0xEC
  | .illegal_ED => some 0xED
  | .illegal_F4 => some 0xF4
  | .illegal_FC => some 0xFC
  | .illegal_FD => some 0xFD
  | _ => none

/-- Why a term is refused. -/
inductive IllFormed where
  /-- The byte names no instruction (R156). -/
  | namesNoInstruction (opcode : Byte)
deriving DecidableEq, Repr

/-- The check, refusing by name. -/
def Instr.check (i : Instr) : Except IllFormed Unit :=
  match i.illegalByte with
  | some op => .error (.namesNoInstruction op)
  | none => .ok ()

/-- The instruction passes the check: one of the 244 base or 256 CB instructions of R158. -/
def Instr.WellFormed (i : Instr) : Bool := i.illegalByte.isNone

end Sys2Proof
end

