-- ==== Sys2Proof/Decode.lean ====
section
/-! DEFINITION. Decoding by the fields of R142 as R152 lays the base page out and R151 the CB page, total on any bytes; after
it the encoder, one row of R153 and R154 a line. The `Instr.of…` functions say which constructor a family's operand fields
name. -/

namespace Sys2Proof

/-! The families by their operand fields. -/

/-- LD r,r' (R170). -/
def Instr.ofLdReg : Reg8 → Reg8 → Instr
  | .b, .b => .ld_b_b
  | .b, .c => .ld_b_c
  | .b, .d => .ld_b_d
  | .b, .e => .ld_b_e
  | .b, .h => .ld_b_h
  | .b, .l => .ld_b_l
  | .b, .a => .ld_b_a
  | .c, .b => .ld_c_b
  | .c, .c => .ld_c_c
  | .c, .d => .ld_c_d
  | .c, .e => .ld_c_e
  | .c, .h => .ld_c_h
  | .c, .l => .ld_c_l
  | .c, .a => .ld_c_a
  | .d, .b => .ld_d_b
  | .d, .c => .ld_d_c
  | .d, .d => .ld_d_d
  | .d, .e => .ld_d_e
  | .d, .h => .ld_d_h
  | .d, .l => .ld_d_l
  | .d, .a => .ld_d_a
  | .e, .b => .ld_e_b
  | .e, .c => .ld_e_c
  | .e, .d => .ld_e_d
  | .e, .e => .ld_e_e
  | .e, .h => .ld_e_h
  | .e, .l => .ld_e_l
  | .e, .a => .ld_e_a
  | .h, .b => .ld_h_b
  | .h, .c => .ld_h_c
  | .h, .d => .ld_h_d
  | .h, .e => .ld_h_e
  | .h, .h => .ld_h_h
  | .h, .l => .ld_h_l
  | .h, .a => .ld_h_a
  | .l, .b => .ld_l_b
  | .l, .c => .ld_l_c
  | .l, .d => .ld_l_d
  | .l, .e => .ld_l_e
  | .l, .h => .ld_l_h
  | .l, .l => .ld_l_l
  | .l, .a => .ld_l_a
  | .a, .b => .ld_a_b
  | .a, .c => .ld_a_c
  | .a, .d => .ld_a_d
  | .a, .e => .ld_a_e
  | .a, .h => .ld_a_h
  | .a, .l => .ld_a_l
  | .a, .a => .ld_a_a

/-- LD r,n (R171). -/
def Instr.ofLdImm : Reg8 → Byte → Instr
  | .b, v => .ld_b_d8 v
  | .c, v => .ld_c_d8 v
  | .d, v => .ld_d_d8 v
  | .e, v => .ld_e_d8 v
  | .h, v => .ld_h_d8 v
  | .l, v => .ld_l_d8 v
  | .a, v => .ld_a_d8 v

/-- LD r,(HL) (R172). -/
def Instr.ofLdFromHL : Reg8 → Instr
  | .b => .ld_b_atHL
  | .c => .ld_c_atHL
  | .d => .ld_d_atHL
  | .e => .ld_e_atHL
  | .h => .ld_h_atHL
  | .l => .ld_l_atHL
  | .a => .ld_a_atHL

/-- LD (HL),r (R173). -/
def Instr.ofLdToHL : Reg8 → Instr
  | .b => .ld_atHL_b
  | .c => .ld_atHL_c
  | .d => .ld_atHL_d
  | .e => .ld_atHL_e
  | .h => .ld_atHL_h
  | .l => .ld_atHL_l
  | .a => .ld_atHL_a

/-- LD A,(rr) of the indirect group (R175, R176, R185, R187). -/
def Instr.ofLdAFrom : Pointer → Instr
  | .bc => .ld_a_atBC
  | .de => .ld_a_atDE
  | .hlInc => .ld_a_atHLinc
  | .hlDec => .ld_a_atHLdec

/-- LD (rr),A of the indirect group (R177, R178, R186, R188). -/
def Instr.ofLdATo : Pointer → Instr
  | .bc => .ld_atBC_a
  | .de => .ld_atDE_a
  | .hlInc => .ld_atHLinc_a
  | .hlDec => .ld_atHLdec_a

/-- LD rr,nn (R200). -/
def Instr.ofLdPair : RegPair → Word → Instr
  | .bc, v => .ld_bc_d16 v
  | .de, v => .ld_de_d16 v
  | .hl, v => .ld_hl_d16 v
  | .sp, v => .ld_sp_d16 v

/-- PUSH rr (R203). -/
def Instr.ofPush : StackPair → Instr
  | .bc => .push_bc
  | .de => .push_de
  | .hl => .push_hl
  | .af => .push_af

/-- POP rr (R204). -/
def Instr.ofPop : StackPair → Instr
  | .bc => .pop_bc
  | .de => .pop_de
  | .hl => .pop_hl
  | .af => .pop_af

/-- The eight ALU operations on A and a register (R218, R221, R224, R227, R230, R233, R236, R239). -/
def Instr.ofAluReg : AluOp → Reg8 → Instr
  | .add, .b => .add_a_b
  | .add, .c => .add_a_c
  | .add, .d => .add_a_d
  | .add, .e => .add_a_e
  | .add, .h => .add_a_h
  | .add, .l => .add_a_l
  | .add, .a => .add_a_a
  | .adc, .b => .adc_a_b
  | .adc, .c => .adc_a_c
  | .adc, .d => .adc_a_d
  | .adc, .e => .adc_a_e
  | .adc, .h => .adc_a_h
  | .adc, .l => .adc_a_l
  | .adc, .a => .adc_a_a
  | .sub, .b => .sub_b
  | .sub, .c => .sub_c
  | .sub, .d => .sub_d
  | .sub, .e => .sub_e
  | .sub, .h => .sub_h
  | .sub, .l => .sub_l
  | .sub, .a => .sub_a
  | .sbc, .b => .sbc_a_b
  | .sbc, .c => .sbc_a_c
  | .sbc, .d => .sbc_a_d
  | .sbc, .e => .sbc_a_e
  | .sbc, .h => .sbc_a_h
  | .sbc, .l => .sbc_a_l
  | .sbc, .a => .sbc_a_a
  | .and, .b => .and_b
  | .and, .c => .and_c
  | .and, .d => .and_d
  | .and, .e => .and_e
  | .and, .h => .and_h
  | .and, .l => .and_l
  | .and, .a => .and_a
  | .xor, .b => .xor_b
  | .xor, .c => .xor_c
  | .xor, .d => .xor_d
  | .xor, .e => .xor_e
  | .xor, .h => .xor_h
  | .xor, .l => .xor_l
  | .xor, .a => .xor_a
  | .or, .b => .or_b
  | .or, .c => .or_c
  | .or, .d => .or_d
  | .or, .e => .or_e
  | .or, .h => .or_h
  | .or, .l => .or_l
  | .or, .a => .or_a
  | .cp, .b => .cp_b
  | .cp, .c => .cp_c
  | .cp, .d => .cp_d
  | .cp, .e => .cp_e
  | .cp, .h => .cp_h
  | .cp, .l => .cp_l
  | .cp, .a => .cp_a

/-- The eight ALU operations on A and (HL) (R219, R222, R225, R228, R231, R234, R237, R240). -/
def Instr.ofAluHL : AluOp → Instr
  | .add => .add_a_atHL
  | .adc => .adc_a_atHL
  | .sub => .sub_atHL
  | .sbc => .sbc_a_atHL
  | .and => .and_atHL
  | .xor => .xor_atHL
  | .or => .or_atHL
  | .cp => .cp_atHL

/-- The eight ALU operations on A and an immediate (R220, R223, R226, R229, R232, R235, R238, R241). -/
def Instr.ofAluImm : AluOp → Byte → Instr
  | .add, v => .add_a_d8 v
  | .adc, v => .adc_a_d8 v
  | .sub, v => .sub_d8 v
  | .sbc, v => .sbc_a_d8 v
  | .and, v => .and_d8 v
  | .xor, v => .xor_d8 v
  | .or, v => .or_d8 v
  | .cp, v => .cp_d8 v

/-- INC r (R242). -/
def Instr.ofInc : Reg8 → Instr
  | .b => .inc_b
  | .c => .inc_c
  | .d => .inc_d
  | .e => .inc_e
  | .h => .inc_h
  | .l => .inc_l
  | .a => .inc_a

/-- DEC r (R244). -/
def Instr.ofDec : Reg8 → Instr
  | .b => .dec_b
  | .c => .dec_c
  | .d => .dec_d
  | .e => .dec_e
  | .h => .dec_h
  | .l => .dec_l
  | .a => .dec_a

/-- ADD HL,rr (R250). -/
def Instr.ofAddHL : RegPair → Instr
  | .bc => .add_hl_bc
  | .de => .add_hl_de
  | .hl => .add_hl_hl
  | .sp => .add_hl_sp

/-- INC rr (R251). -/
def Instr.ofIncPair : RegPair → Instr
  | .bc => .inc_bc
  | .de => .inc_de
  | .hl => .inc_hl
  | .sp => .inc_sp

/-- DEC rr (R252). -/
def Instr.ofDecPair : RegPair → Instr
  | .bc => .dec_bc
  | .de => .dec_de
  | .hl => .dec_hl
  | .sp => .dec_sp

/-- The rotates, shifts and SWAP of the CB page on a register (R266 to R280). -/
def Instr.ofRot : RotOp → Reg8 → Instr
  | .rlc, .b => .rlc_b
  | .rlc, .c => .rlc_c
  | .rlc, .d => .rlc_d
  | .rlc, .e => .rlc_e
  | .rlc, .h => .rlc_h
  | .rlc, .l => .rlc_l
  | .rlc, .a => .rlc_a
  | .rrc, .b => .rrc_b
  | .rrc, .c => .rrc_c
  | .rrc, .d => .rrc_d
  | .rrc, .e => .rrc_e
  | .rrc, .h => .rrc_h
  | .rrc, .l => .rrc_l
  | .rrc, .a => .rrc_a
  | .rl, .b => .rl_b
  | .rl, .c => .rl_c
  | .rl, .d => .rl_d
  | .rl, .e => .rl_e
  | .rl, .h => .rl_h
  | .rl, .l => .rl_l
  | .rl, .a => .rl_a
  | .rr, .b => .rr_b
  | .rr, .c => .rr_c
  | .rr, .d => .rr_d
  | .rr, .e => .rr_e
  | .rr, .h => .rr_h
  | .rr, .l => .rr_l
  | .rr, .a => .rr_a
  | .sla, .b => .sla_b
  | .sla, .c => .sla_c
  | .sla, .d => .sla_d
  | .sla, .e => .sla_e
  | .sla, .h => .sla_h
  | .sla, .l => .sla_l
  | .sla, .a => .sla_a
  | .sra, .b => .sra_b
  | .sra, .c => .sra_c
  | .sra, .d => .sra_d
  | .sra, .e => .sra_e
  | .sra, .h => .sra_h
  | .sra, .l => .sra_l
  | .sra, .a => .sra_a
  | .swap, .b => .swap_b
  | .swap, .c => .swap_c
  | .swap, .d => .swap_d
  | .swap, .e => .swap_e
  | .swap, .h => .swap_h
  | .swap, .l => .swap_l
  | .swap, .a => .swap_a
  | .srl, .b => .srl_b
  | .srl, .c => .srl_c
  | .srl, .d => .srl_d
  | .srl, .e => .srl_e
  | .srl, .h => .srl_h
  | .srl, .l => .srl_l
  | .srl, .a => .srl_a

/-- The rotates, shifts and SWAP of the CB page on (HL) (R267 to R281). -/
def Instr.ofRotHL : RotOp → Instr
  | .rlc => .rlc_atHL
  | .rrc => .rrc_atHL
  | .rl => .rl_atHL
  | .rr => .rr_atHL
  | .sla => .sla_atHL
  | .sra => .sra_atHL
  | .swap => .swap_atHL
  | .srl => .srl_atHL

/-- BIT b,r (R282). -/
def Instr.ofBit : Bit3 → Reg8 → Instr
  | .n0, .b => .bit_0_b
  | .n0, .c => .bit_0_c
  | .n0, .d => .bit_0_d
  | .n0, .e => .bit_0_e
  | .n0, .h => .bit_0_h
  | .n0, .l => .bit_0_l
  | .n0, .a => .bit_0_a
  | .n1, .b => .bit_1_b
  | .n1, .c => .bit_1_c
  | .n1, .d => .bit_1_d
  | .n1, .e => .bit_1_e
  | .n1, .h => .bit_1_h
  | .n1, .l => .bit_1_l
  | .n1, .a => .bit_1_a
  | .n2, .b => .bit_2_b
  | .n2, .c => .bit_2_c
  | .n2, .d => .bit_2_d
  | .n2, .e => .bit_2_e
  | .n2, .h => .bit_2_h
  | .n2, .l => .bit_2_l
  | .n2, .a => .bit_2_a
  | .n3, .b => .bit_3_b
  | .n3, .c => .bit_3_c
  | .n3, .d => .bit_3_d
  | .n3, .e => .bit_3_e
  | .n3, .h => .bit_3_h
  | .n3, .l => .bit_3_l
  | .n3, .a => .bit_3_a
  | .n4, .b => .bit_4_b
  | .n4, .c => .bit_4_c
  | .n4, .d => .bit_4_d
  | .n4, .e => .bit_4_e
  | .n4, .h => .bit_4_h
  | .n4, .l => .bit_4_l
  | .n4, .a => .bit_4_a
  | .n5, .b => .bit_5_b
  | .n5, .c => .bit_5_c
  | .n5, .d => .bit_5_d
  | .n5, .e => .bit_5_e
  | .n5, .h => .bit_5_h
  | .n5, .l => .bit_5_l
  | .n5, .a => .bit_5_a
  | .n6, .b => .bit_6_b
  | .n6, .c => .bit_6_c
  | .n6, .d => .bit_6_d
  | .n6, .e => .bit_6_e
  | .n6, .h => .bit_6_h
  | .n6, .l => .bit_6_l
  | .n6, .a => .bit_6_a
  | .n7, .b => .bit_7_b
  | .n7, .c => .bit_7_c
  | .n7, .d => .bit_7_d
  | .n7, .e => .bit_7_e
  | .n7, .h => .bit_7_h
  | .n7, .l => .bit_7_l
  | .n7, .a => .bit_7_a

/-- BIT b,(HL) (R283). -/
def Instr.ofBitHL : Bit3 → Instr
  | .n0 => .bit_0_atHL
  | .n1 => .bit_1_atHL
  | .n2 => .bit_2_atHL
  | .n3 => .bit_3_atHL
  | .n4 => .bit_4_atHL
  | .n5 => .bit_5_atHL
  | .n6 => .bit_6_atHL
  | .n7 => .bit_7_atHL

/-- RES b,r (R284). -/
def Instr.ofRes : Bit3 → Reg8 → Instr
  | .n0, .b => .res_0_b
  | .n0, .c => .res_0_c
  | .n0, .d => .res_0_d
  | .n0, .e => .res_0_e
  | .n0, .h => .res_0_h
  | .n0, .l => .res_0_l
  | .n0, .a => .res_0_a
  | .n1, .b => .res_1_b
  | .n1, .c => .res_1_c
  | .n1, .d => .res_1_d
  | .n1, .e => .res_1_e
  | .n1, .h => .res_1_h
  | .n1, .l => .res_1_l
  | .n1, .a => .res_1_a
  | .n2, .b => .res_2_b
  | .n2, .c => .res_2_c
  | .n2, .d => .res_2_d
  | .n2, .e => .res_2_e
  | .n2, .h => .res_2_h
  | .n2, .l => .res_2_l
  | .n2, .a => .res_2_a
  | .n3, .b => .res_3_b
  | .n3, .c => .res_3_c
  | .n3, .d => .res_3_d
  | .n3, .e => .res_3_e
  | .n3, .h => .res_3_h
  | .n3, .l => .res_3_l
  | .n3, .a => .res_3_a
  | .n4, .b => .res_4_b
  | .n4, .c => .res_4_c
  | .n4, .d => .res_4_d
  | .n4, .e => .res_4_e
  | .n4, .h => .res_4_h
  | .n4, .l => .res_4_l
  | .n4, .a => .res_4_a
  | .n5, .b => .res_5_b
  | .n5, .c => .res_5_c
  | .n5, .d => .res_5_d
  | .n5, .e => .res_5_e
  | .n5, .h => .res_5_h
  | .n5, .l => .res_5_l
  | .n5, .a => .res_5_a
  | .n6, .b => .res_6_b
  | .n6, .c => .res_6_c
  | .n6, .d => .res_6_d
  | .n6, .e => .res_6_e
  | .n6, .h => .res_6_h
  | .n6, .l => .res_6_l
  | .n6, .a => .res_6_a
  | .n7, .b => .res_7_b
  | .n7, .c => .res_7_c
  | .n7, .d => .res_7_d
  | .n7, .e => .res_7_e
  | .n7, .h => .res_7_h
  | .n7, .l => .res_7_l
  | .n7, .a => .res_7_a

/-- RES b,(HL) (R285). -/
def Instr.ofResHL : Bit3 → Instr
  | .n0 => .res_0_atHL
  | .n1 => .res_1_atHL
  | .n2 => .res_2_atHL
  | .n3 => .res_3_atHL
  | .n4 => .res_4_atHL
  | .n5 => .res_5_atHL
  | .n6 => .res_6_atHL
  | .n7 => .res_7_atHL

/-- SET b,r (R286). -/
def Instr.ofSet : Bit3 → Reg8 → Instr
  | .n0, .b => .set_0_b
  | .n0, .c => .set_0_c
  | .n0, .d => .set_0_d
  | .n0, .e => .set_0_e
  | .n0, .h => .set_0_h
  | .n0, .l => .set_0_l
  | .n0, .a => .set_0_a
  | .n1, .b => .set_1_b
  | .n1, .c => .set_1_c
  | .n1, .d => .set_1_d
  | .n1, .e => .set_1_e
  | .n1, .h => .set_1_h
  | .n1, .l => .set_1_l
  | .n1, .a => .set_1_a
  | .n2, .b => .set_2_b
  | .n2, .c => .set_2_c
  | .n2, .d => .set_2_d
  | .n2, .e => .set_2_e
  | .n2, .h => .set_2_h
  | .n2, .l => .set_2_l
  | .n2, .a => .set_2_a
  | .n3, .b => .set_3_b
  | .n3, .c => .set_3_c
  | .n3, .d => .set_3_d
  | .n3, .e => .set_3_e
  | .n3, .h => .set_3_h
  | .n3, .l => .set_3_l
  | .n3, .a => .set_3_a
  | .n4, .b => .set_4_b
  | .n4, .c => .set_4_c
  | .n4, .d => .set_4_d
  | .n4, .e => .set_4_e
  | .n4, .h => .set_4_h
  | .n4, .l => .set_4_l
  | .n4, .a => .set_4_a
  | .n5, .b => .set_5_b
  | .n5, .c => .set_5_c
  | .n5, .d => .set_5_d
  | .n5, .e => .set_5_e
  | .n5, .h => .set_5_h
  | .n5, .l => .set_5_l
  | .n5, .a => .set_5_a
  | .n6, .b => .set_6_b
  | .n6, .c => .set_6_c
  | .n6, .d => .set_6_d
  | .n6, .e => .set_6_e
  | .n6, .h => .set_6_h
  | .n6, .l => .set_6_l
  | .n6, .a => .set_6_a
  | .n7, .b => .set_7_b
  | .n7, .c => .set_7_c
  | .n7, .d => .set_7_d
  | .n7, .e => .set_7_e
  | .n7, .h => .set_7_h
  | .n7, .l => .set_7_l
  | .n7, .a => .set_7_a

/-- SET b,(HL) (R287). -/
def Instr.ofSetHL : Bit3 → Instr
  | .n0 => .set_0_atHL
  | .n1 => .set_1_atHL
  | .n2 => .set_2_atHL
  | .n3 => .set_3_atHL
  | .n4 => .set_4_atHL
  | .n5 => .set_5_atHL
  | .n6 => .set_6_atHL
  | .n7 => .set_7_atHL

/-- JP cc,nn (R292). -/
def Instr.ofJp : Cond → Word → Instr
  | .nz, v => .jp_nz_a16 v
  | .z, v => .jp_z_a16 v
  | .nc, v => .jp_nc_a16 v
  | .c, v => .jp_c_a16 v

/-- JR cc,e (R295). -/
def Instr.ofJr : Cond → Byte → Instr
  | .nz, v => .jr_nz_e8 v
  | .z, v => .jr_z_e8 v
  | .nc, v => .jr_nc_e8 v
  | .c, v => .jr_c_e8 v

/-- CALL cc,nn (R297). -/
def Instr.ofCall : Cond → Word → Instr
  | .nz, v => .call_nz_a16 v
  | .z, v => .call_z_a16 v
  | .nc, v => .call_nc_a16 v
  | .c, v => .call_c_a16 v

/-- RET cc (R299). -/
def Instr.ofRet : Cond → Instr
  | .nz => .ret_nz
  | .z => .ret_z
  | .nc => .ret_nc
  | .c => .ret_c

/-- RST t (R303). -/
def Instr.ofRst : Bit3 → Instr
  | .n0 => .rst_00
  | .n1 => .rst_08
  | .n2 => .rst_10
  | .n3 => .rst_18
  | .n4 => .rst_20
  | .n5 => .rst_28
  | .n6 => .rst_30
  | .n7 => .rst_38

/-! The fields (R145 to R150). -/

/-- The 3-bit register field; none for code 6, which is (HL) (R145). -/
def regField : Nat → Option Reg8
  | 0 => some .b
  | 1 => some .c
  | 2 => some .d
  | 3 => some .e
  | 4 => some .h
  | 5 => some .l
  | 7 => some .a
  | _ => none

/-- Field p as the general group (R146). -/
def pairField : Nat → RegPair
  | 0 => .bc
  | 1 => .de
  | 2 => .hl
  | _ => .sp

/-- Field p as the indirect group (R147). -/
def pointerField : Nat → Pointer
  | 0 => .bc
  | 1 => .de
  | 2 => .hlInc
  | _ => .hlDec

/-- Field p as the stack group (R148). -/
def stackField : Nat → StackPair
  | 0 => .bc
  | 1 => .de
  | 2 => .hl
  | _ => .af

/-- The condition field (R149). -/
def condField : Nat → Cond
  | 0 => .nz
  | 1 => .z
  | 2 => .nc
  | _ => .c

/-- Field y as an ALU operation (R150). -/
def aluField : Nat → AluOp
  | 0 => .add
  | 1 => .adc
  | 2 => .sub
  | 3 => .sbc
  | 4 => .and
  | 5 => .xor
  | 6 => .or
  | _ => .cp

/-- Field y as a CB-page operation (R151). -/
def rotField : Nat → RotOp
  | 0 => .rlc
  | 1 => .rrc
  | 2 => .rl
  | 3 => .rr
  | 4 => .sla
  | 5 => .sra
  | 6 => .swap
  | _ => .srl

/-- Field y as a number. -/
def bitField : Nat → Bit3
  | 0 => .n0
  | 1 => .n1
  | 2 => .n2
  | 3 => .n3
  | 4 => .n4
  | 5 => .n5
  | 6 => .n6
  | _ => .n7

/-! The pages. -/

/-- The CB page (R151, R154, R265): no sub-opcode is undefined (R157). -/
def decodeCb (sub : Byte) : Instr :=
  let v := sub.toNat
  let y := v / 8 % 8
  match v / 64, regField (v % 8) with
  | 0, some r => .ofRot (rotField y) r
  | 0, none => .ofRotHL (rotField y)
  | 1, some r => .ofBit (bitField y) r
  | 1, none => .ofBitHL (bitField y)
  | 2, some r => .ofRes (bitField y) r
  | 2, none => .ofResHL (bitField y)
  | _, some r => .ofSet (bitField y) r
  | _, none => .ofSetHL (bitField y)

/-- Opcodes 0x00 to 0x3F (R152, x = 0). -/
def decodeX0 (y z : Nat) (n : Byte) (nn : Word) : Instr :=
  let p := y / 2
  let q := y % 2
  match z with
  | 0 =>
    match y with
    | 0 => .nop
    | 1 => .ld_atA16_sp nn
    | 2 => .stop n
    | 3 => .jr_e8 n
    | _ => .ofJr (condField (y - 4)) n
  | 1 => if q = 0 then .ofLdPair (pairField p) nn else .ofAddHL (pairField p)
  | 2 => if q = 0 then .ofLdATo (pointerField p) else .ofLdAFrom (pointerField p)
  | 3 => if q = 0 then .ofIncPair (pairField p) else .ofDecPair (pairField p)
  | 4 =>
    match regField y with
    | some r => .ofInc r
    | none => .inc_atHL
  | 5 =>
    match regField y with
    | some r => .ofDec r
    | none => .dec_atHL
  | 6 =>
    match regField y with
    | some r => .ofLdImm r n
    | none => .ld_atHL_d8 n
  | _ =>
    match y with
    | 0 => .rlca
    | 1 => .rrca
    | 2 => .rla
    | 3 => .rra
    | 4 => .daa
    | 5 => .cpl
    | 6 => .scf
    | _ => .ccf

/-- Opcodes 0x40 to 0x7F (R152, x = 1): the slot of LD (HL),(HL) is HALT. -/
def decodeX1 (y z : Nat) : Instr :=
  match regField y, regField z with
  | some rd, some rs => .ofLdReg rd rs
  | some rd, none => .ofLdFromHL rd
  | none, some rs => .ofLdToHL rs
  | none, none => .halt

/-- Opcodes 0x80 to 0xBF (R152, x = 2). -/
def decodeX2 (y z : Nat) : Instr :=
  match regField z with
  | some r => .ofAluReg (aluField y) r
  | none => .ofAluHL (aluField y)

/-- Opcodes 0xC0 to 0xFF (R152, x = 3); for the opcode byte 0xCB, `n` is the sub-opcode (R265). -/
def decodeX3 (y z : Nat) (n : Byte) (nn : Word) : Instr :=
  let p := y / 2
  let q := y % 2
  match z with
  | 0 =>
    match y with
    | 4 => .ldh_atA8_a n
    | 5 => .add_sp_e8 n
    | 6 => .ldh_a_atA8 n
    | 7 => .ld_hl_sp_e8 n
    | _ => .ofRet (condField y)
  | 1 =>
    if q = 0 then .ofPop (stackField p)
    else
      match p with
      | 0 => .ret
      | 1 => .reti
      | 2 => .jp_hl
      | _ => .ld_sp_hl
  | 2 =>
    match y with
    | 4 => .ldh_atC_a
    | 5 => .ld_atA16_a nn
    | 6 => .ldh_a_atC
    | 7 => .ld_a_atA16 nn
    | _ => .ofJp (condField y) nn
  | 3 =>
    match y with
    | 0 => .jp_a16 nn
    | 1 => decodeCb n
    | 2 => .illegal_D3
    | 3 => .illegal_DB
    | 4 => .illegal_E3
    | 5 => .illegal_EB
    | 6 => .di
    | _ => .ei
  | 4 =>
    match y with
    | 4 => .illegal_E4
    | 5 => .illegal_EC
    | 6 => .illegal_F4
    | 7 => .illegal_FC
    | _ => .ofCall (condField y) nn
  | 5 =>
    if q = 0 then .ofPush (stackField p)
    else
      match p with
      | 0 => .call_a16 nn
      | 1 => .illegal_DD
      | 2 => .illegal_ED
      | _ => .illegal_FD
  | 6 => .ofAluImm (aluField y) n
  | _ => .ofRst (bitField y)

/-- The instruction whose opcode byte is `b0` and whose next two bytes are `b1` and `b2`; a shorter instruction ignores the
bytes after its own. Total: "any byte sequence decodes" (R158). -/
def decodeBytes (b0 b1 b2 : Byte) : Instr :=
  let v := b0.toNat
  let y := v / 8 % 8
  let z := v % 8
  match v / 64 with
  | 0 => decodeX0 y z b1 (Machine.joinBytes b2 b1)
  | 1 => decodeX1 y z
  | 2 => decodeX2 y z
  | _ => decodeX3 y z b1 (Machine.joinBytes b2 b1)

/-- The length in bytes from the opcode byte alone: "A decoder tells the length from the first byte alone (from the first two
for the 0xCB page, whose length is always 2)" (R140, R141). -/
def opcodeLength (b0 : Byte) : Nat :=
  let v := b0.toNat
  let y := v / 8 % 8
  let q := y % 2
  match v / 64, v % 8 with
  | 0, 0 => if y = 0 then 1 else if y = 1 then 3 else 2
  | 0, 1 => if q = 0 then 3 else 1
  | 0, 6 => 2
  | 3, 0 => if y < 4 then 1 else 2
  | 3, 2 => if y < 4 ∨ y = 5 ∨ y = 7 then 3 else 1
  | 3, 3 => if y = 0 then 3 else if y = 1 then 2 else 1
  | 3, 4 => if y < 4 then 3 else 1
  | 3, 5 => if y = 1 then 3 else 1
  | 3, 6 => 2
  | _, _ => 1

/-- Why a byte list is rejected. -/
inductive DecodeError where
  /-- There is no opcode byte. -/
  | noOpcode
  /-- The list ends inside the instruction that `opcode` begins. -/
  | truncated (opcode : Byte)
deriving DecidableEq, Repr

/-- Decode the instruction at the front of a byte list, lowest address first, and give the bytes after it. -/
def decode : List Byte → Except DecodeError (Instr × List Byte)
  | [] => .error .noOpcode
  | b0 :: rest =>
    if rest.length + 1 < opcodeLength b0 then .error (.truncated b0)
    else .ok (decodeBytes b0 (rest.getD 0 0) (rest.getD 1 0), rest.drop (opcodeLength b0 - 1))

/-- The instruction that the bits of `w` name, numbered as the opcode table numbers them: byte k is bits 8k+7 to 8k, and the
bits from `nbits` on are 0. A CB instruction has 0xCB in bits 7 to 0 and its sub-opcode in bits 15 to 8 (assumption 16). -/
def decodeTableWord (nbits w : Nat) : Option Instr :=
  let v := w % 2 ^ nbits
  match decode [BitVec.ofNat 8 v, BitVec.ofNat 8 (v / 0x100), BitVec.ofNat 8 (v / 0x10000)] with
  | .ok (i, _) => some i
  | .error _ => none

/-! The encoder. -/

/-- The bytes of an instruction, lowest address first (R141, R153, R154). -/
def encode : Instr → List Byte
  | .nop => [0x00]
  | .ld_bc_d16 nn => [0x01, Machine.lowByte nn, Machine.highByte nn]
  | .ld_atBC_a => [0x02]
  | .inc_bc => [0x03]
  | .inc_b => [0x04]
  | .dec_b => [0x05]
  | .ld_b_d8 n => [0x06, n]
  | .rlca => [0x07]
  | .ld_atA16_sp nn => [0x08, Machine.lowByte nn, Machine.highByte nn]
  | .add_hl_bc => [0x09]
  | .ld_a_atBC => [0x0A]
  | .dec_bc => [0x0B]
  | .inc_c => [0x0C]
  | .dec_c => [0x0D]
  | .ld_c_d8 n => [0x0E, n]
  | .rrca => [0x0F]
  | .stop pad => [0x10, pad]
  | .ld_de_d16 nn => [0x11, Machine.lowByte nn, Machine.highByte nn]
  | .ld_atDE_a => [0x12]
  | .inc_de => [0x13]
  | .inc_d => [0x14]
  | .dec_d => [0x15]
  | .ld_d_d8 n => [0x16, n]
  | .rla => [0x17]
  | .jr_e8 e => [0x18, e]
  | .add_hl_de => [0x19]
  | .ld_a_atDE => [0x1A]
  | .dec_de => [0x1B]
  | .inc_e => [0x1C]
  | .dec_e => [0x1D]
  | .ld_e_d8 n => [0x1E, n]
  | .rra => [0x1F]
  | .jr_nz_e8 e => [0x20, e]
  | .ld_hl_d16 nn => [0x21, Machine.lowByte nn, Machine.highByte nn]
  | .ld_atHLinc_a => [0x22]
  | .inc_hl => [0x23]
  | .inc_h => [0x24]
  | .dec_h => [0x25]
  | .ld_h_d8 n => [0x26, n]
  | .daa => [0x27]
  | .jr_z_e8 e => [0x28, e]
  | .add_hl_hl => [0x29]
  | .ld_a_atHLinc => [0x2A]
  | .dec_hl => [0x2B]
  | .inc_l => [0x2C]
  | .dec_l => [0x2D]
  | .ld_l_d8 n => [0x2E, n]
  | .cpl => [0x2F]
  | .jr_nc_e8 e => [0x30, e]
  | .ld_sp_d16 nn => [0x31, Machine.lowByte nn, Machine.highByte nn]
  | .ld_atHLdec_a => [0x32]
  | .inc_sp => [0x33]
  | .inc_atHL => [0x34]
  | .dec_atHL => [0x35]
  | .ld_atHL_d8 n => [0x36, n]
  | .scf => [0x37]
  | .jr_c_e8 e => [0x38, e]
  | .add_hl_sp => [0x39]
  | .ld_a_atHLdec => [0x3A]
  | .dec_sp => [0x3B]
  | .inc_a => [0x3C]
  | .dec_a => [0x3D]
  | .ld_a_d8 n => [0x3E, n]
  | .ccf => [0x3F]
  | .ld_b_b => [0x40]
  | .ld_b_c => [0x41]
  | .ld_b_d => [0x42]
  | .ld_b_e => [0x43]
  | .ld_b_h => [0x44]
  | .ld_b_l => [0x45]
  | .ld_b_atHL => [0x46]
  | .ld_b_a => [0x47]
  | .ld_c_b => [0x48]
  | .ld_c_c => [0x49]
  | .ld_c_d => [0x4A]
  | .ld_c_e => [0x4B]
  | .ld_c_h => [0x4C]
  | .ld_c_l => [0x4D]
  | .ld_c_atHL => [0x4E]
  | .ld_c_a => [0x4F]
  | .ld_d_b => [0x50]
  | .ld_d_c => [0x51]
  | .ld_d_d => [0x52]
  | .ld_d_e => [0x53]
  | .ld_d_h => [0x54]
  | .ld_d_l => [0x55]
  | .ld_d_atHL => [0x56]
  | .ld_d_a => [0x57]
  | .ld_e_b => [0x58]
  | .ld_e_c => [0x59]
  | .ld_e_d => [0x5A]
  | .ld_e_e => [0x5B]
  | .ld_e_h => [0x5C]
  | .ld_e_l => [0x5D]
  | .ld_e_atHL => [0x5E]
  | .ld_e_a => [0x5F]
  | .ld_h_b => [0x60]
  | .ld_h_c => [0x61]
  | .ld_h_d => [0x62]
  | .ld_h_e => [0x63]
  | .ld_h_h => [0x64]
  | .ld_h_l => [0x65]
  | .ld_h_atHL => [0x66]
  | .ld_h_a => [0x67]
  | .ld_l_b => [0x68]
  | .ld_l_c => [0x69]
  | .ld_l_d => [0x6A]
  | .ld_l_e => [0x6B]
  | .ld_l_h => [0x6C]
  | .ld_l_l => [0x6D]
  | .ld_l_atHL => [0x6E]
  | .ld_l_a => [0x6F]
  | .ld_atHL_b => [0x70]
  | .ld_atHL_c => [0x71]
  | .ld_atHL_d => [0x72]
  | .ld_atHL_e => [0x73]
  | .ld_atHL_h => [0x74]
  | .ld_atHL_l => [0x75]
  | .halt => [0x76]
  | .ld_atHL_a => [0x77]
  | .ld_a_b => [0x78]
  | .ld_a_c => [0x79]
  | .ld_a_d => [0x7A]
  | .ld_a_e => [0x7B]
  | .ld_a_h => [0x7C]
  | .ld_a_l => [0x7D]
  | .ld_a_atHL => [0x7E]
  | .ld_a_a => [0x7F]
  | .add_a_b => [0x80]
  | .add_a_c => [0x81]
  | .add_a_d => [0x82]
  | .add_a_e => [0x83]
  | .add_a_h => [0x84]
  | .add_a_l => [0x85]
  | .add_a_atHL => [0x86]
  | .add_a_a => [0x87]
  | .adc_a_b => [0x88]
  | .adc_a_c => [0x89]
  | .adc_a_d => [0x8A]
  | .adc_a_e => [0x8B]
  | .adc_a_h => [0x8C]
  | .adc_a_l => [0x8D]
  | .adc_a_atHL => [0x8E]
  | .adc_a_a => [0x8F]
  | .sub_b => [0x90]
  | .sub_c => [0x91]
  | .sub_d => [0x92]
  | .sub_e => [0x93]
  | .sub_h => [0x94]
  | .sub_l => [0x95]
  | .sub_atHL => [0x96]
  | .sub_a => [0x97]
  | .sbc_a_b => [0x98]
  | .sbc_a_c => [0x99]
  | .sbc_a_d => [0x9A]
  | .sbc_a_e => [0x9B]
  | .sbc_a_h => [0x9C]
  | .sbc_a_l => [0x9D]
  | .sbc_a_atHL => [0x9E]
  | .sbc_a_a => [0x9F]
  | .and_b => [0xA0]
  | .and_c => [0xA1]
  | .and_d => [0xA2]
  | .and_e => [0xA3]
  | .and_h => [0xA4]
  | .and_l => [0xA5]
  | .and_atHL => [0xA6]
  | .and_a => [0xA7]
  | .xor_b => [0xA8]
  | .xor_c => [0xA9]
  | .xor_d => [0xAA]
  | .xor_e => [0xAB]
  | .xor_h => [0xAC]
  | .xor_l => [0xAD]
  | .xor_atHL => [0xAE]
  | .xor_a => [0xAF]
  | .or_b => [0xB0]
  | .or_c => [0xB1]
  | .or_d => [0xB2]
  | .or_e => [0xB3]
  | .or_h => [0xB4]
  | .or_l => [0xB5]
  | .or_atHL => [0xB6]
  | .or_a => [0xB7]
  | .cp_b => [0xB8]
  | .cp_c => [0xB9]
  | .cp_d => [0xBA]
  | .cp_e => [0xBB]
  | .cp_h => [0xBC]
  | .cp_l => [0xBD]
  | .cp_atHL => [0xBE]
  | .cp_a => [0xBF]
  | .ret_nz => [0xC0]
  | .pop_bc => [0xC1]
  | .jp_nz_a16 nn => [0xC2, Machine.lowByte nn, Machine.highByte nn]
  | .jp_a16 nn => [0xC3, Machine.lowByte nn, Machine.highByte nn]
  | .call_nz_a16 nn => [0xC4, Machine.lowByte nn, Machine.highByte nn]
  | .push_bc => [0xC5]
  | .add_a_d8 n => [0xC6, n]
  | .rst_00 => [0xC7]
  | .ret_z => [0xC8]
  | .ret => [0xC9]
  | .jp_z_a16 nn => [0xCA, Machine.lowByte nn, Machine.highByte nn]
  | .call_z_a16 nn => [0xCC, Machine.lowByte nn, Machine.highByte nn]
  | .call_a16 nn => [0xCD, Machine.lowByte nn, Machine.highByte nn]
  | .adc_a_d8 n => [0xCE, n]
  | .rst_08 => [0xCF]
  | .ret_nc => [0xD0]
  | .pop_de => [0xD1]
  | .jp_nc_a16 nn => [0xD2, Machine.lowByte nn, Machine.highByte nn]
  | .illegal_D3 => [0xD3]
  | .call_nc_a16 nn => [0xD4, Machine.lowByte nn, Machine.highByte nn]
  | .push_de => [0xD5]
  | .sub_d8 n => [0xD6, n]
  | .rst_10 => [0xD7]
  | .ret_c => [0xD8]
  | .reti => [0xD9]
  | .jp_c_a16 nn => [0xDA, Machine.lowByte nn, Machine.highByte nn]
  | .illegal_DB => [0xDB]
  | .call_c_a16 nn => [0xDC, Machine.lowByte nn, Machine.highByte nn]
  | .illegal_DD => [0xDD]
  | .sbc_a_d8 n => [0xDE, n]
  | .rst_18 => [0xDF]
  | .ldh_atA8_a n => [0xE0, n]
  | .pop_hl => [0xE1]
  | .ldh_atC_a => [0xE2]
  | .illegal_E3 => [0xE3]
  | .illegal_E4 => [0xE4]
  | .push_hl => [0xE5]
  | .and_d8 n => [0xE6, n]
  | .rst_20 => [0xE7]
  | .add_sp_e8 e => [0xE8, e]
  | .jp_hl => [0xE9]
  | .ld_atA16_a nn => [0xEA, Machine.lowByte nn, Machine.highByte nn]
  | .illegal_EB => [0xEB]
  | .illegal_EC => [0xEC]
  | .illegal_ED => [0xED]
  | .xor_d8 n => [0xEE, n]
  | .rst_28 => [0xEF]
  | .ldh_a_atA8 n => [0xF0, n]
  | .pop_af => [0xF1]
  | .ldh_a_atC => [0xF2]
  | .di => [0xF3]
  | .illegal_F4 => [0xF4]
  | .push_af => [0xF5]
  | .or_d8 n => [0xF6, n]
  | .rst_30 => [0xF7]
  | .ld_hl_sp_e8 e => [0xF8, e]
  | .ld_sp_hl => [0xF9]
  | .ld_a_atA16 nn => [0xFA, Machine.lowByte nn, Machine.highByte nn]
  | .ei => [0xFB]
  | .illegal_FC => [0xFC]
  | .illegal_FD => [0xFD]
  | .cp_d8 n => [0xFE, n]
  | .rst_38 => [0xFF]
  | .rlc_b => [0xCB, 0x00]
  | .rlc_c => [0xCB, 0x01]
  | .rlc_d => [0xCB, 0x02]
  | .rlc_e => [0xCB, 0x03]
  | .rlc_h => [0xCB, 0x04]
  | .rlc_l => [0xCB, 0x05]
  | .rlc_atHL => [0xCB, 0x06]
  | .rlc_a => [0xCB, 0x07]
  | .rrc_b => [0xCB, 0x08]
  | .rrc_c => [0xCB, 0x09]
  | .rrc_d => [0xCB, 0x0A]
  | .rrc_e => [0xCB, 0x0B]
  | .rrc_h => [0xCB, 0x0C]
  | .rrc_l => [0xCB, 0x0D]
  | .rrc_atHL => [0xCB, 0x0E]
  | .rrc_a => [0xCB, 0x0F]
  | .rl_b => [0xCB, 0x10]
  | .rl_c => [0xCB, 0x11]
  | .rl_d => [0xCB, 0x12]
  | .rl_e => [0xCB, 0x13]
  | .rl_h => [0xCB, 0x14]
  | .rl_l => [0xCB, 0x15]
  | .rl_atHL => [0xCB, 0x16]
  | .rl_a => [0xCB, 0x17]
  | .rr_b => [0xCB, 0x18]
  | .rr_c => [0xCB, 0x19]
  | .rr_d => [0xCB, 0x1A]
  | .rr_e => [0xCB, 0x1B]
  | .rr_h => [0xCB, 0x1C]
  | .rr_l => [0xCB, 0x1D]
  | .rr_atHL => [0xCB, 0x1E]
  | .rr_a => [0xCB, 0x1F]
  | .sla_b => [0xCB, 0x20]
  | .sla_c => [0xCB, 0x21]
  | .sla_d => [0xCB, 0x22]
  | .sla_e => [0xCB, 0x23]
  | .sla_h => [0xCB, 0x24]
  | .sla_l => [0xCB, 0x25]
  | .sla_atHL => [0xCB, 0x26]
  | .sla_a => [0xCB, 0x27]
  | .sra_b => [0xCB, 0x28]
  | .sra_c => [0xCB, 0x29]
  | .sra_d => [0xCB, 0x2A]
  | .sra_e => [0xCB, 0x2B]
  | .sra_h => [0xCB, 0x2C]
  | .sra_l => [0xCB, 0x2D]
  | .sra_atHL => [0xCB, 0x2E]
  | .sra_a => [0xCB, 0x2F]
  | .swap_b => [0xCB, 0x30]
  | .swap_c => [0xCB, 0x31]
  | .swap_d => [0xCB, 0x32]
  | .swap_e => [0xCB, 0x33]
  | .swap_h => [0xCB, 0x34]
  | .swap_l => [0xCB, 0x35]
  | .swap_atHL => [0xCB, 0x36]
  | .swap_a => [0xCB, 0x37]
  | .srl_b => [0xCB, 0x38]
  | .srl_c => [0xCB, 0x39]
  | .srl_d => [0xCB, 0x3A]
  | .srl_e => [0xCB, 0x3B]
  | .srl_h => [0xCB, 0x3C]
  | .srl_l => [0xCB, 0x3D]
  | .srl_atHL => [0xCB, 0x3E]
  | .srl_a => [0xCB, 0x3F]
  | .bit_0_b => [0xCB, 0x40]
  | .bit_0_c => [0xCB, 0x41]
  | .bit_0_d => [0xCB, 0x42]
  | .bit_0_e => [0xCB, 0x43]
  | .bit_0_h => [0xCB, 0x44]
  | .bit_0_l => [0xCB, 0x45]
  | .bit_0_atHL => [0xCB, 0x46]
  | .bit_0_a => [0xCB, 0x47]
  | .bit_1_b => [0xCB, 0x48]
  | .bit_1_c => [0xCB, 0x49]
  | .bit_1_d => [0xCB, 0x4A]
  | .bit_1_e => [0xCB, 0x4B]
  | .bit_1_h => [0xCB, 0x4C]
  | .bit_1_l => [0xCB, 0x4D]
  | .bit_1_atHL => [0xCB, 0x4E]
  | .bit_1_a => [0xCB, 0x4F]
  | .bit_2_b => [0xCB, 0x50]
  | .bit_2_c => [0xCB, 0x51]
  | .bit_2_d => [0xCB, 0x52]
  | .bit_2_e => [0xCB, 0x53]
  | .bit_2_h => [0xCB, 0x54]
  | .bit_2_l => [0xCB, 0x55]
  | .bit_2_atHL => [0xCB, 0x56]
  | .bit_2_a => [0xCB, 0x57]
  | .bit_3_b => [0xCB, 0x58]
  | .bit_3_c => [0xCB, 0x59]
  | .bit_3_d => [0xCB, 0x5A]
  | .bit_3_e => [0xCB, 0x5B]
  | .bit_3_h => [0xCB, 0x5C]
  | .bit_3_l => [0xCB, 0x5D]
  | .bit_3_atHL => [0xCB, 0x5E]
  | .bit_3_a => [0xCB, 0x5F]
  | .bit_4_b => [0xCB, 0x60]
  | .bit_4_c => [0xCB, 0x61]
  | .bit_4_d => [0xCB, 0x62]
  | .bit_4_e => [0xCB, 0x63]
  | .bit_4_h => [0xCB, 0x64]
  | .bit_4_l => [0xCB, 0x65]
  | .bit_4_atHL => [0xCB, 0x66]
  | .bit_4_a => [0xCB, 0x67]
  | .bit_5_b => [0xCB, 0x68]
  | .bit_5_c => [0xCB, 0x69]
  | .bit_5_d => [0xCB, 0x6A]
  | .bit_5_e => [0xCB, 0x6B]
  | .bit_5_h => [0xCB, 0x6C]
  | .bit_5_l => [0xCB, 0x6D]
  | .bit_5_atHL => [0xCB, 0x6E]
  | .bit_5_a => [0xCB, 0x6F]
  | .bit_6_b => [0xCB, 0x70]
  | .bit_6_c => [0xCB, 0x71]
  | .bit_6_d => [0xCB, 0x72]
  | .bit_6_e => [0xCB, 0x73]
  | .bit_6_h => [0xCB, 0x74]
  | .bit_6_l => [0xCB, 0x75]
  | .bit_6_atHL => [0xCB, 0x76]
  | .bit_6_a => [0xCB, 0x77]
  | .bit_7_b => [0xCB, 0x78]
  | .bit_7_c => [0xCB, 0x79]
  | .bit_7_d => [0xCB, 0x7A]
  | .bit_7_e => [0xCB, 0x7B]
  | .bit_7_h => [0xCB, 0x7C]
  | .bit_7_l => [0xCB, 0x7D]
  | .bit_7_atHL => [0xCB, 0x7E]
  | .bit_7_a => [0xCB, 0x7F]
  | .res_0_b => [0xCB, 0x80]
  | .res_0_c => [0xCB, 0x81]
  | .res_0_d => [0xCB, 0x82]
  | .res_0_e => [0xCB, 0x83]
  | .res_0_h => [0xCB, 0x84]
  | .res_0_l => [0xCB, 0x85]
  | .res_0_atHL => [0xCB, 0x86]
  | .res_0_a => [0xCB, 0x87]
  | .res_1_b => [0xCB, 0x88]
  | .res_1_c => [0xCB, 0x89]
  | .res_1_d => [0xCB, 0x8A]
  | .res_1_e => [0xCB, 0x8B]
  | .res_1_h => [0xCB, 0x8C]
  | .res_1_l => [0xCB, 0x8D]
  | .res_1_atHL => [0xCB, 0x8E]
  | .res_1_a => [0xCB, 0x8F]
  | .res_2_b => [0xCB, 0x90]
  | .res_2_c => [0xCB, 0x91]
  | .res_2_d => [0xCB, 0x92]
  | .res_2_e => [0xCB, 0x93]
  | .res_2_h => [0xCB, 0x94]
  | .res_2_l => [0xCB, 0x95]
  | .res_2_atHL => [0xCB, 0x96]
  | .res_2_a => [0xCB, 0x97]
  | .res_3_b => [0xCB, 0x98]
  | .res_3_c => [0xCB, 0x99]
  | .res_3_d => [0xCB, 0x9A]
  | .res_3_e => [0xCB, 0x9B]
  | .res_3_h => [0xCB, 0x9C]
  | .res_3_l => [0xCB, 0x9D]
  | .res_3_atHL => [0xCB, 0x9E]
  | .res_3_a => [0xCB, 0x9F]
  | .res_4_b => [0xCB, 0xA0]
  | .res_4_c => [0xCB, 0xA1]
  | .res_4_d => [0xCB, 0xA2]
  | .res_4_e => [0xCB, 0xA3]
  | .res_4_h => [0xCB, 0xA4]
  | .res_4_l => [0xCB, 0xA5]
  | .res_4_atHL => [0xCB, 0xA6]
  | .res_4_a => [0xCB, 0xA7]
  | .res_5_b => [0xCB, 0xA8]
  | .res_5_c => [0xCB, 0xA9]
  | .res_5_d => [0xCB, 0xAA]
  | .res_5_e => [0xCB, 0xAB]
  | .res_5_h => [0xCB, 0xAC]
  | .res_5_l => [0xCB, 0xAD]
  | .res_5_atHL => [0xCB, 0xAE]
  | .res_5_a => [0xCB, 0xAF]
  | .res_6_b => [0xCB, 0xB0]
  | .res_6_c => [0xCB, 0xB1]
  | .res_6_d => [0xCB, 0xB2]
  | .res_6_e => [0xCB, 0xB3]
  | .res_6_h => [0xCB, 0xB4]
  | .res_6_l => [0xCB, 0xB5]
  | .res_6_atHL => [0xCB, 0xB6]
  | .res_6_a => [0xCB, 0xB7]
  | .res_7_b => [0xCB, 0xB8]
  | .res_7_c => [0xCB, 0xB9]
  | .res_7_d => [0xCB, 0xBA]
  | .res_7_e => [0xCB, 0xBB]
  | .res_7_h => [0xCB, 0xBC]
  | .res_7_l => [0xCB, 0xBD]
  | .res_7_atHL => [0xCB, 0xBE]
  | .res_7_a => [0xCB, 0xBF]
  | .set_0_b => [0xCB, 0xC0]
  | .set_0_c => [0xCB, 0xC1]
  | .set_0_d => [0xCB, 0xC2]
  | .set_0_e => [0xCB, 0xC3]
  | .set_0_h => [0xCB, 0xC4]
  | .set_0_l => [0xCB, 0xC5]
  | .set_0_atHL => [0xCB, 0xC6]
  | .set_0_a => [0xCB, 0xC7]
  | .set_1_b => [0xCB, 0xC8]
  | .set_1_c => [0xCB, 0xC9]
  | .set_1_d => [0xCB, 0xCA]
  | .set_1_e => [0xCB, 0xCB]
  | .set_1_h => [0xCB, 0xCC]
  | .set_1_l => [0xCB, 0xCD]
  | .set_1_atHL => [0xCB, 0xCE]
  | .set_1_a => [0xCB, 0xCF]
  | .set_2_b => [0xCB, 0xD0]
  | .set_2_c => [0xCB, 0xD1]
  | .set_2_d => [0xCB, 0xD2]
  | .set_2_e => [0xCB, 0xD3]
  | .set_2_h => [0xCB, 0xD4]
  | .set_2_l => [0xCB, 0xD5]
  | .set_2_atHL => [0xCB, 0xD6]
  | .set_2_a => [0xCB, 0xD7]
  | .set_3_b => [0xCB, 0xD8]
  | .set_3_c => [0xCB, 0xD9]
  | .set_3_d => [0xCB, 0xDA]
  | .set_3_e => [0xCB, 0xDB]
  | .set_3_h => [0xCB, 0xDC]
  | .set_3_l => [0xCB, 0xDD]
  | .set_3_atHL => [0xCB, 0xDE]
  | .set_3_a => [0xCB, 0xDF]
  | .set_4_b => [0xCB, 0xE0]
  | .set_4_c => [0xCB, 0xE1]
  | .set_4_d => [0xCB, 0xE2]
  | .set_4_e => [0xCB, 0xE3]
  | .set_4_h => [0xCB, 0xE4]
  | .set_4_l => [0xCB, 0xE5]
  | .set_4_atHL => [0xCB, 0xE6]
  | .set_4_a => [0xCB, 0xE7]
  | .set_5_b => [0xCB, 0xE8]
  | .set_5_c => [0xCB, 0xE9]
  | .set_5_d => [0xCB, 0xEA]
  | .set_5_e => [0xCB, 0xEB]
  | .set_5_h => [0xCB, 0xEC]
  | .set_5_l => [0xCB, 0xED]
  | .set_5_atHL => [0xCB, 0xEE]
  | .set_5_a => [0xCB, 0xEF]
  | .set_6_b => [0xCB, 0xF0]
  | .set_6_c => [0xCB, 0xF1]
  | .set_6_d => [0xCB, 0xF2]
  | .set_6_e => [0xCB, 0xF3]
  | .set_6_h => [0xCB, 0xF4]
  | .set_6_l => [0xCB, 0xF5]
  | .set_6_atHL => [0xCB, 0xF6]
  | .set_6_a => [0xCB, 0xF7]
  | .set_7_b => [0xCB, 0xF8]
  | .set_7_c => [0xCB, 0xF9]
  | .set_7_d => [0xCB, 0xFA]
  | .set_7_e => [0xCB, 0xFB]
  | .set_7_h => [0xCB, 0xFC]
  | .set_7_l => [0xCB, 0xFD]
  | .set_7_atHL => [0xCB, 0xFE]
  | .set_7_a => [0xCB, 0xFF]

/-- The length of an instruction in bytes. -/
def Instr.length (i : Instr) : Nat := (encode i).length

end Sys2Proof
end

