-- ==== Sys2Proof/Machine/Fetch.lean ====
section
/-! DEFINITION. Fetching an instruction (R11, R93), and placing one where the next fetch reads it. -/

namespace Sys2Proof.Machine

/-- The byte `k` bytes after the opcode byte, as the fetch reads it; the address wraps (R11, R60). -/
def State.codeByte (s : State) (k : Nat) : Byte := busRead s (s.pc + BitVec.ofNat 16 k)

/-- The instruction at `pc`. Every byte goes through `BusRead` (R93); reads change nothing (R82), so reading the bytes
after a shorter instruction is not a difference (assumption 10). -/
def State.fetched (s : State) : Instr := decodeBytes (s.codeByte 0) (s.codeByte 1) (s.codeByte 2)

/-! Placing an instruction (assumption 17). -/

/-- The state in which a fetch from `addr` reads `v`, where the byte there is stored at all: the storage behind the
address gets the byte, ROM and boot overlay included. NoMBC's image is lengthened where it does not reach (R110). -/
def placeByte (s : State) (addr : Word) (v : Byte) : State :=
  let a := addr.toNat
  if a ≤ 0x00FF ∧ s.bootActive = true then
    { s with cfg := { s.cfg with bootRom := Memory.write s.cfg.bootRom a v } }
  else if a ≤ 0x7FFF then
    match romTarget s.cfg s.cart a with
    | some off => { s with cfg := { s.cfg with rom := Memory.write s.cfg.rom off v } }
    | none => { s with cfg := { s.cfg with rom := Memory.write s.cfg.rom a v, romLength := a + 1 } }
  else if a ≤ 0x9FFF then { s with vram := Memory.write s.vram (a - 0x8000) v }
  else if a ≤ 0xBFFF then
    match cartRamTarget s.cfg s.cart a with
    | some off => { s with cartRam := Memory.write s.cartRam off v }
    | none => s
  else if a ≤ 0xDFFF then { s with wram := Memory.write s.wram (a - 0xC000) v }
  else if a ≤ 0xFDFF then { s with wram := Memory.write s.wram (a - 0xE000) v }
  else if a ≤ 0xFE9F then { s with oam := Memory.write s.oam (a - 0xFE00) v }
  else if a ≤ 0xFEFF then s
  else if a ≤ 0xFF7F then s
  else if a ≤ 0xFFFE then { s with hram := Memory.write s.hram (a - 0xFF80) v }
  else { s with ie := v }

/-- Three bytes at `pc` and after it. -/
def placeBytes (s : State) (b0 b1 b2 : Byte) : State :=
  placeByte (placeByte (placeByte s s.pc b0) (s.pc + 1) b1) (s.pc + 2) b2

/-- The next fetch reads the three bytes. -/
def State.fetches (s : State) (b0 b1 b2 : Byte) : Bool :=
  s.codeByte 0 == b0 && s.codeByte 1 == b1 && s.codeByte 2 == b2

/-- The machine made ready to execute at `pc` in its next step: not stopped, not halted, no interrupt dispatched first. -/
def readyToFetch (s : State) : State :=
  { s with
    fatal := none
    modelFault := none
    halted := false
    ime := if s.pending = 0 then s.ime else false }

/-- The machine whose next step runs the instruction with these bytes: they are placed at `pc`, or, where `pc` names no
storage that a fetch reads (a hole, an I/O register, a locked region, a closed gate), at the start of work RAM with `pc`
moved there. -/
def placeInstruction (s : State) (b0 b1 b2 : Byte) : State :=
  let t := readyToFetch (placeBytes s b0 b1 b2)
  if t.fetches b0 b1 b2 then t else readyToFetch (placeBytes { s with pc := 0xC000 } b0 b1 b2)

end Sys2Proof.Machine
end

