-- ==== Sys2Proof/Machine/CpuStep.lean ====
section
/-! DEFINITION. `CpuStep` (50_step_and_scheduler.md R335 to R337). -/

namespace Sys2Proof.Machine

/-- The wake test, which runs first in every step (R366). -/
def wake (s : State) : State := if s.pending = 0 then s else { s with halted := false }

/-- An interrupt is dispatched in this step (R363). -/
def State.dispatches (s : State) : Bool := s.ime && s.pending != 0

/-- The EI_DELAY = 1 clause at the end of an executed instruction (R335, R337): `armed` is `ei_pending` at the step's
start. -/
def finishEi (armed : Bool) (t : State) : State :=
  if t.cfg.eiDelay && armed && t.eiPending then { t with ime := true, eiPending := false } else t

/-- After the instruction of the step that began in `s`. A step that raised Fatal has changed nothing but `fatal`, not even
`halted` (R331, R360; assumption 7). -/
def afterExec (s t : State) : State :=
  match t.fatal with
  | some r => { s with fatal := some r }
  | none => finishEi s.eiPending t

/-- `CpuStep()` (R335). -/
def cpuStep (s : State) : Result :=
  if s.dispatches then .next (interruptEntry (lowestSource s.pending) (wake s))
  else if (wake s).halted then .next (s.charge s.cfg.haltIdleCycles)
  else
    match exec s.fetched (wake s) with
    | .next t => .next (afterExec s t)
    | .fault e => .fault e
    | .refused r => .refused r

end Sys2Proof.Machine
end

