-- ==== Sys2Proof/Machine/Joypad.lean ====
section
/-! DEFINITION. The host's key events (60_exceptions.md R381). P1's value as read is in Machine/Bus.lean. -/

namespace Sys2Proof.Machine

/-- `pressed[b]` (R56). -/
def Buttons.get (p : Buttons) : Button → Bool
  | .right => p.right
  | .left => p.left
  | .up => p.up
  | .down => p.down
  | .a => p.a
  | .b => p.b
  | .select => p.select
  | .start => p.start

/-- `pressed[b] <- v`. -/
def Buttons.set (p : Buttons) (k : Button) (v : Bool) : Buttons :=
  match k with
  | .right => { p with right := v }
  | .left => { p with left := v }
  | .up => { p with up := v }
  | .down => { p with down := v }
  | .a => { p with a := v }
  | .b => { p with b := v }
  | .select => { p with select := v }
  | .start => { p with start := v }

/-- One key event: IF[4] is set on the released to pressed change only (R381). -/
def applyKey (k : KeyEvent) (s : State) : State :=
  let t := { s with pressed := Buttons.set s.pressed k.button k.pressed }
  if k.pressed && !Buttons.get s.pressed k.button then t.raiseIf 0x10 else t

/-- `HostKey(KEY_INPUT(k))` (R381): this step's entry of the input, which leaves the queue (assumption 4). -/
def hostKey (s : State) : State :=
  match s.keyInput with
  | [] => s
  | none :: rest => { s with keyInput := rest }
  | some k :: rest => applyKey k { s with keyInput := rest }

end Sys2Proof.Machine
end

