-- ==== Sys2Proof/Machine/Ppu.lean ====
section
/-! DEFINITION. The display controller (62_ppu.md): the renderer, which reads `vram` and `oam` directly and with no lock
(R400, R418), and the mode state machine that the scheduler's PPU entries drive. The enable and disable actions stand in
Machine/Bus.lean, inside the LCDC write that performs them. -/

namespace Sys2Proof.Machine

/-! Background and window. -/

/-- `VR(a)` (R400), for a in 0x8000 to 0x9FFF; the renderer reads no other address. -/
def State.vr (s : State) (a : Nat) : Byte := Memory.read s.vram (a - 0x8000)

/-- `TilePix(r, c)` (R424): the column counts from the left. -/
def State.tilePix (s : State) (r c : Nat) : BitVec 2 :=
  BitVec.ofBool (bitOf (s.vr (r + 1)) (7 - c)) ++ BitVec.ofBool (bitOf (s.vr r) (7 - c))

/-- `TileAddr(t)` (R423). -/
def State.tileAddr (s : State) (t : Byte) : Nat :=
  if bitOf s.lcdc 4 then 0x8000 + 16 * t.toNat else (0x9000 + 16 * t.toInt).toNat

/-- The tile index at map coordinates (mx, my) of the map at `base` (R421), which the rule gives for coordinates up to 255. `my`
passes 255 only as the `wlc` of a display that LoadState has left in a state no run from reset reaches (R464, U4); the index is
a free value there (DESIGN CHOICE, safe; assumption 29). -/
def State.mapTile (s : State) (base mx my : Nat) : Byte :=
  if my < 256 then s.vr (base + 32 * (my / 8) + mx / 8) else Config.freeTile s.now mx my

/-- The colour index at map coordinates (mx, my) of the map at `base` (R421, R424). -/
def State.mapPix (s : State) (base mx my : Nat) : BitVec 2 :=
  s.tilePix (s.tileAddr (s.mapTile base mx my) + 2 * (my % 8)) (mx % 8)

/-- `in_window(px)` (R420). -/
def State.inWindow (s : State) (px : Nat) : Bool :=
  bitOf s.lcdc 5 && decide (s.ly.toNat ≥ (s.ioByte offWY).toNat) && decide (px + 7 ≥ (s.ioByte offWX).toNat)

/-- The pixel is taken from the window (R419, R431). -/
def State.takesWindow (s : State) (px : Nat) : Bool := bitOf s.lcdc 0 && s.inWindow px

/-- The base of the background's tile map (R421). -/
def State.bgMap (s : State) : Nat := if bitOf s.lcdc 3 then 0x9C00 else 0x9800

/-- The base of the window's tile map (R421). -/
def State.windowMap (s : State) : Nat := if bitOf s.lcdc 6 then 0x9C00 else 0x9800

/-- The raw background or window index of pixel `px` (R419, R422, R431). -/
def State.bgIndex (s : State) (px : Nat) : BitVec 2 :=
  if !bitOf s.lcdc 0 then 0
  else if s.takesWindow px then s.mapPix s.windowMap (px + 7 - (s.ioByte offWX).toNat) s.wlc
  else
    s.mapPix s.bgMap ((px + (s.ioByte offSCX).toNat) % 256) ((s.ly.toNat + (s.ioByte offSCY).toNat) % 256)

/-- `Pal(p, i) = p[2i+1 : 2i]` (R425). -/
def pal (p : Byte) (i : BitVec 2) : BitVec 2 := p.extractLsb' (2 * i.toNat) 2

/-- `SHADE[k]` (R425). -/
def shadeOf (sh : Shades) (k : BitVec 2) : BitVec 32 :=
  if k = 0 then sh.shade0 else if k = 1 then sh.shade1 else if k = 2 then sh.shade2 else sh.shade3

/-- The background colour of pixel `px`. -/
def State.bgColour (s : State) (px : Nat) : BitVec 32 :=
  shadeOf s.cfg.shade (pal (s.ioByte offBGP) (s.bgIndex px))

/-! Sprites. -/

/-- An OAM entry (R428). -/
structure Sprite where
  y : Byte
  x : Byte
  tile : Byte
  attr : Byte
deriving DecidableEq, Repr

/-- Entry i: `oam[4i .. 4i+3]` (R428). -/
def State.sprite (s : State) (i : Nat) : Sprite :=
  ⟨Memory.read s.oam (4 * i), Memory.read s.oam (4 * i + 1), Memory.read s.oam (4 * i + 2), Memory.read s.oam (4 * i + 3)⟩

/-- The sprite height h (R427). -/
def State.spriteHeight (s : State) : Nat := if bitOf s.lcdc 2 then 16 else 8

/-- `sy <= LY < sy + h` with `sy = Y - 16` (R428), both sides plus 16. -/
def State.coversLine (s : State) (o : Sprite) : Bool :=
  decide (o.y.toNat ≤ s.ly.toNat + 16) && decide (s.ly.toNat + 16 < o.y.toNat + s.spriteHeight)

/-- The selection: the first ten entries, in OAM order, that cover the line (R428). -/
def State.selected (s : State) : List Sprite :=
  (((List.range 40).map s.sprite).filter s.coversLine).take 10

/-- Insertion after every sprite of the same or a smaller X. -/
def insertByX (o : Sprite) : List Sprite → List Sprite
  | [] => [o]
  | p :: ps => if o.x.toNat < p.x.toNat then o :: p :: ps else p :: insertByX o ps

/-- The stable sort by X ascending (R429). -/
def sortByX (os : List Sprite) : List Sprite := os.foldl (fun acc o => insertByX o acc) []

/-- The row of the sprite on the line, flipped vertically where attr[6] says so (R430). -/
def State.spriteRow (s : State) (o : Sprite) : Nat :=
  let row := s.ly.toNat + 16 - o.y.toNat
  if bitOf o.attr 6 then s.spriteHeight - 1 - row else row

/-- The sprite's colour index at column `c` from its left edge (R427, R430). -/
def State.spritePix (s : State) (o : Sprite) (c : Nat) : BitVec 2 :=
  let tt := if bitOf s.lcdc 2 then o.tile &&& 0xFE else o.tile
  s.tilePix (0x8000 + 16 * tt.toNat + 2 * s.spriteRow o) (if bitOf o.attr 5 then 7 - c else c)

/-- What `DrawSprite` writes at pixel `px`, if it writes there (R430): the column is `px - (X - 8)`. -/
def State.drawnAt (s : State) (o : Sprite) (px : Nat) : Option (BitVec 32) :=
  if o.x.toNat ≤ px + 8 ∧ px + 8 < o.x.toNat + 8 then
    let i := s.spritePix o (px + 8 - o.x.toNat)
    if i = 0 then none
    else if bitOf o.attr 7 = true ∧ s.bgIndex px ≠ 0 then none
    else some (shadeOf s.cfg.shade (pal (if bitOf o.attr 4 then s.ioByte offOBP1 else s.ioByte offOBP0) i))
  else none

/-- The sprites of the line in drawing order, "from the last of the sorted list to the first" (R426, R429). -/
def State.drawList (s : State) : List Sprite :=
  if bitOf s.lcdc 1 then (sortByX s.selected).reverse else []

/-- Pixel `px` after every sprite of the list has been drawn over the background, in the list's order. -/
def State.pixelColour (s : State) (os : List Sprite) (px : Nat) : BitVec 32 :=
  os.foldl (fun colour o => (s.drawnAt o px).getD colour) (s.bgColour px)

/-! The scanline. -/

/-- Row LY of `fb`. -/
def State.lineColours (s : State) : List (BitVec 32) :=
  let os := s.drawList
  (List.range 160).map (s.pixelColour os)

/-- At least one pixel of the line is taken from the window (R432). -/
def State.usedWindow (s : State) : Bool := (List.range 160).any s.takesWindow

/-- `RenderScanline(LY)` (R431). -/
def renderScanline (s : State) : State :=
  { s with
    bgidx := (List.range 160).map s.bgIndex
    fb := s.fb.set s.ly.toNat s.lineColours
    wlc := if s.usedWindow then s.wlc + 1 else s.wlc }

/-! The mode state machine. -/

/-- `SetLY(v)` (R403, R412). -/
def setLy (s : State) (v : Byte) : State :=
  let t := s.setIo offLY v
  if v = t.lyc ∧ bitOf t.statStored 6 = true then t.raiseIf 0x02 else t

/-- `StatIrq(bit)` (R403). -/
def statIrq (s : State) (k : Nat) : State := if bitOf s.statStored k then s.raiseIf 0x02 else s

/-- Enter OAM-scan at time `t` (the common end of R406 and R407). -/
def enterOamScan (t : Nat) (s : State) : State :=
  schedPush (statIrq { s with mode := .oamScan } 5) (t + 80) .ppu

/-- Enter VBlank at time `t` (R406, R408, R410). -/
def enterVBlank (t : Nat) (s : State) : State :=
  schedPush (statIrq (State.raiseIf { s with mode := .vBlank } 0x01) 4) (t + 456) .ppu

/-- End of OAM-scan (R404). -/
def endOamScan (t : Nat) (s : State) : State :=
  schedPush (renderScanline { s with mode := .pixelTransfer }) (t + 172) .ppu

/-- End of pixel-transfer (R405). -/
def endPixelTransfer (t : Nat) (s : State) : State :=
  schedPush (statIrq { s with mode := .hBlank } 3) (t + 204) .ppu

/-- End of HBlank (R406). -/
def endHBlank (t : Nat) (s : State) : State :=
  let u := setLy s (s.ly + 1)
  if u.ly = 144 then enterVBlank t u else enterOamScan t u

/-- End of a VBlank line (R407). -/
def endVBlankLine (t : Nat) (s : State) : State :=
  if s.ly = 153 then enterOamScan t { setLy s 0 with wlc := 0 }
  else schedPush (setLy s (s.ly + 1)) (t + 456) .ppu

/-- `PpuEvent(T)` (R403). -/
def ppuEvent (t : Nat) (s : State) : State :=
  if s.displayOn then
    match s.mode with
    | .oamScan => endOamScan t s
    | .pixelTransfer => endPixelTransfer t s
    | .hBlank => endHBlank t s
    | .vBlank => endVBlankLine t s
  else s

end Sys2Proof.Machine
end

