-- ==== Sys2Proof/Machine/Timer.lean ====
section
/-! DEFINITION. The timer logic, run by the handler of a Timers event (60_exceptions.md R374 to R377). The `while` loops of
R374 are written as the number of times their body runs, applied to the body (assumption 18). -/

namespace Sys2Proof.Machine

/-- The TAC enable bit (R38). -/
def State.timerOn (s : State) : Bool := bitOf (s.ioByte offTAC) 2

/-- `[1024, 16, 64, 256][io[0x07][1:0]]` (R374). -/
def State.timerPeriod (s : State) : Nat :=
  match (s.ioByte offTAC).toNat % 4 with
  | 0 => 1024
  | 1 => 16
  | 2 => 64
  | _ => 256

/-- One increment of DIV, wrapping (R375). -/
def divTick (s : State) : State := s.setIo offDIV (s.ioByte offDIV + 1)

/-- One increment of TIMA: from 0xFF it loads TMA and sets IF[2] in the same action (R377). -/
def timaTick (s : State) : State :=
  if s.ioByte offTIMA = 0xFF then (s.setIo offTIMA (s.ioByte offTMA)).raiseIf 0x04
  else s.setIo offTIMA (s.ioByte offTIMA + 1)

/-- The DIV half of `TimerAdvance(delta)`. -/
def advanceDiv (delta : Nat) (s : State) : State :=
  let total := s.divSub + delta
  { Nat.repeat divTick (total / 256) s with divSub := total % 256 }

/-- The TIMA half of `TimerAdvance(delta)`: nothing while the timer is off (R376). -/
def advanceTima (delta : Nat) (s : State) : State :=
  if s.timerOn then
    let total := s.timaSub + delta
    { Nat.repeat timaTick (total / s.timerPeriod) s with timaSub := total % s.timerPeriod }
  else s

/-- `TimerAdvance(delta)` (R374). -/
def timerAdvance (delta : Nat) (s : State) : State := advanceTima delta (advanceDiv delta s)

end Sys2Proof.Machine
end

