-- ==== Sys2Proof/Machine/MachineStep.lean ====
section
/-! DEFINITION. `MachineStep` (50_step_and_scheduler.md R331, R346, R347). -/

namespace Sys2Proof.Machine

/-- `Handle(ev, cycles)` (R347), after the entry was popped. -/
def handleEvent (ev : Event) (s : State) : State :=
  match ev.kind with
  | .none => s
  | .apu => s
  | .ppu => ppuEvent ev.time s
  | .timers => timerAdvance s.cycles s
  | .panic => { s with modelFault := some .schedulerPanic }

/-- The loop of R331, at most `fuel` times: the first entry is popped and handled while it is due. A model fault ends it. -/
def runDue : Nat → State → State
  | 0, s => s
  | fuel + 1, s =>
    match s.entries with
    | [] => s
    | ev :: rest =>
      if decide (ev.time ≤ s.now) && s.modelFault.isNone then runDue fuel (handleEvent ev { s with entries := rest })
      else s

/-- Enough turns for the loop: every turn removes an entry and adds at most one, at a later time (R349). -/
def dueFuel (s : State) : Nat := (s.entries.map (fun e => s.now + 1 - e.time)).sum

/-- The part of `MachineStep` after `CpuStep` and before the key event: time, the Timers entry, the due events. -/
def passTime (s : State) : State :=
  let t := { s with now := s.now + s.cycles }
  let u := schedPush t t.now .timers
  runDue (dueFuel u) u

/-- The step's fault for a latched model fault. -/
def ModelFault.toFault : ModelFault → Fault
  | .schedulerOverflow => .schedulerOverflow
  | .schedulerPanic => .schedulerPanic

/-- The rest of `MachineStep` after a `CpuStep` that raised no Fatal. -/
def finishStep (t : State) : Result :=
  let u := passTime t
  match u.modelFault with
  | some m => .fault m.toFault
  | none => .next (hostKey u)

/-- `MachineStep` (R331). A machine whose `fatal` record is present has no further step (R360). -/
def machineStep (s : State) : Result :=
  match s.fatal, s.modelFault with
  | some r, _ => .fault (.fatalDecode r.opcode r.addr)
  | none, some m => .fault m.toFault
  | none, none =>
    match cpuStep s with
    | .next t => if t.fatal.isSome then .next t else finishStep t
    | .fault e => .fault e
    | .refused r => .refused r

end Sys2Proof.Machine
end

