-- ==== Sys2Proof/Machine/Step.lean ====
section
/-! DEFINITION. The one step of the machine, and the placing of an instruction at its fetch. Everything they do is in the
files they call. -/

namespace Sys2Proof.Machine

/-- One machine step (R331). -/
def step (s : State) : Host.Outcome State Fault Refusal := machineStep s

/-- `s` with the instruction whose bits are `w`, numbered as the opcode table numbers them, where `step` fetches its next
instruction (assumptions 16 and 17). -/
def State.withFetchWord (s : State) (nbits w : Nat) : State :=
  let v := w % 2 ^ nbits
  placeInstruction s (BitVec.ofNat 8 v) (BitVec.ofNat 8 (v / 0x100)) (BitVec.ofNat 8 (v / 0x10000))

end Sys2Proof.Machine
end

