-- ==== Sys2Proof/Machine/HostActions.lean ====
section
/-! DEFINITION. What the host may do between machine steps (70_reset_and_hazards.md R460 to R464): the reset state of any
parameters under both profiles, power-on, Reset, LoadROM, Stop, Pause, SaveState, LoadState and the battery save. -/

namespace Sys2Proof.Machine

/-- The reset state under BootRom (R58) of a machine with these parameters and a newly built cartridge. `fb` is SHADE[0] in every
pixel, as R58's table says; decision D44 says zero (DESIGN CHOICE, unsafe; assumption 28). -/
def resetBootRom (cfg : Config) (cart : Cartridge) : State :=
  { State.reset with
    cart := cart
    cartRam := cfg.cartRamInit
    fb := blankFrame cfg.shade.shade0
    cfg := cfg }

/-- The I/O bytes that R59 gives a value other than 0. -/
def postBootIo : Memory :=
  [(offDIV, 0xAB), (offTAC, 0xF8), (offIF, 0xE1), (offLCDC, 0x91), (offBGP, 0xFC), (offBOOT, 0x01)]

/-- The reset state under PostBoot (R59): R58's with the table's changes. -/
def resetPostBoot (cfg : Config) (cart : Cartridge) : State :=
  { resetBootRom cfg cart with
    a := 0x01
    f := 0xB0
    b := 0x00
    c := 0x13
    d := 0x00
    e := 0xD8
    h := 0x01
    l := 0x4D
    sp := 0xFFFE
    pc := 0x0100
    bootActive := false
    io := postBootIo
    divSub := 0xCC
    mode := .oamScan
    entries := [⟨80, .ppu⟩, panicSentinel] }

/-- The reset state under the profile of the parameters (R461). -/
def resetWith (cfg : Config) (cart : Cartridge) : State :=
  match cfg.resetProfile with
  | .bootRom => resetBootRom cfg cart
  | .postBoot => resetPostBoot cfg cart

/-- Power-on with these parameters (R460): the cartridge is built from the image (R101, R131) and every piece of state
takes its reset value. There is no machine with an empty image (93_implementation_defined.md U6), nor with a type byte
that the table of R101 does not list: "refused: the model has no cartridge for it". -/
def powerOn (cfg : Config) : Result :=
  if cfg.romLength = 0 then .refused .emptyRom
  else
    match cartridgeOfType (headerByte cfg 0x147) with
    | none => .refused (.unknownCartridge (headerByte cfg 0x147))
    | some cart => .next (resetWith cfg cart)

/-- The host's `Reset()` (R462): "the reset state for the same parameters". The host's key input of the coming steps is
not the machine's to clear (assumption 4). -/
def hostReset (s : State) : Result :=
  match powerOn s.cfg with
  | .next t => .next { t with keyInput := s.keyInput }
  | .fault e => .fault e
  | .refused r => .refused r

/-- The host's `Stop()` (R462): as Reset; the host then takes no further machine step. -/
def hostStop (s : State) : Result := hostReset s

/-- The host's `Pause()` (R463): it "changes nothing". -/
def hostPause (s : State) : State := s

/-- The parameters with another image and its battery file. -/
def Config.withRom (cfg : Config) (image : List Byte) (saveFile : Memory) : Config :=
  { cfg with rom := Memory.ofBytes image, romLength := image.length, cartRamInit := saveFile }

/-- The host's `LoadROM` (R462): the image and, with it, the battery file are replaced, then as `Reset()`, with the
refusals of power-on. -/
def hostLoadRom (image : List Byte) (saveFile : Memory) (s : State) : Result :=
  hostReset { s with cfg := Config.withRom s.cfg image saveFile }

/-- The cartridge's `Save` (R107): the dump of the RAM buffer. -/
def batterySave (s : State) : List Byte := Memory.bytes s.cfg.cartRamBytes s.cartRam

/-- The stream of `SaveState` (R95): wram, io, hram, ie, vram, oam, 16800 bytes. -/
def saveState (s : State) : List Byte :=
  Memory.bytes wramSize s.wram ++ Memory.bytes ioSize s.io ++ Memory.bytes hramSize s.hram ++ [s.ie]
    ++ Memory.bytes vramSize s.vram ++ Memory.bytes oamSize s.oam

/-- The length of the stream. -/
def saveStateSize : Nat := 16800

/-- `LoadState` (R95, R464): overwrites exactly the arrays of the stream. A missing file is the empty stream: "nothing is
changed"; so of any stream that is not one whole file (assumption 21). -/
def loadState (bytes : List Byte) (s : State) : State :=
  if bytes.length = saveStateSize then
    let afterWram := bytes.drop wramSize
    let afterIo := afterWram.drop ioSize
    let afterHram := afterIo.drop hramSize
    let afterIe := afterHram.drop 1
    let afterVram := afterIe.drop vramSize
    { s with
      wram := Memory.ofBytes (bytes.take wramSize)
      io := Memory.ofBytes (afterWram.take ioSize)
      hram := Memory.ofBytes (afterIo.take hramSize)
      ie := afterHram.headD 0
      vram := Memory.ofBytes (afterIe.take vramSize)
      oam := Memory.ofBytes (afterVram.take oamSize) }
  else s

end Sys2Proof.Machine
end

