-- ==== Sys2Proof/Safety.lean ====
section
/-! DEFINITION. The vocabulary of the claims: the operand fields as bits, the CPU's own part of the state, what a legal
configuration is, and the invariants of a safe run. Each invariant says something on its own and is kept by `step` on its
own or with the ones it names. -/

namespace Sys2Proof

/-! The operand fields as bits, from which the claims write an instruction's encoding (R142, R145, R146, R148 to R151). -/

def Reg8.field : Reg8 → BitVec 3
  | .b => 0b000
  | .c => 0b001
  | .d => 0b010
  | .e => 0b011
  | .h => 0b100
  | .l => 0b101
  | .a => 0b111

def RegPair.field : RegPair → BitVec 2
  | .bc => 0b00
  | .de => 0b01
  | .hl => 0b10
  | .sp => 0b11

def StackPair.field : StackPair → BitVec 2
  | .bc => 0b00
  | .de => 0b01
  | .hl => 0b10
  | .af => 0b11

def Cond.field : Cond → BitVec 2
  | .nz => 0b00
  | .z => 0b01
  | .nc => 0b10
  | .c => 0b11

def AluOp.field : AluOp → BitVec 3
  | .add => 0b000
  | .adc => 0b001
  | .sub => 0b010
  | .sbc => 0b011
  | .and => 0b100
  | .xor => 0b101
  | .or => 0b110
  | .cp => 0b111

def RotOp.field : RotOp → BitVec 3
  | .rlc => 0b000
  | .rrc => 0b001
  | .rl => 0b010
  | .rr => 0b011
  | .sla => 0b100
  | .sra => 0b101
  | .swap => 0b110
  | .srl => 0b111

def Bit3.field (k : Bit3) : BitVec 3 := BitVec.ofNat 3 k.toNat

end Sys2Proof

namespace Sys2Proof.Machine

/-- The CPU's own registers, hidden bits and cost (R20 to R30, R13): what an instruction may change without a bus write. -/
structure CpuRegs where
  a : Byte
  f : Byte
  b : Byte
  c : Byte
  d : Byte
  e : Byte
  h : Byte
  l : Byte
  sp : Word
  pc : Word
  ime : Bool
  halted : Bool
  fatal : Option FatalRecord
  eiPending : Bool
  cycles : Nat
deriving DecidableEq, Repr

/-- The CPU's part of a state. -/
def State.cpu (s : State) : CpuRegs :=
  ⟨s.a, s.f, s.b, s.c, s.d, s.e, s.h, s.l, s.sp, s.pc, s.ime, s.halted, s.fatal, s.eiPending, s.cycles⟩

/-- The state with its CPU's part replaced and everything else as it was. -/
def State.withCpu (s : State) (r : CpuRegs) : State :=
  { s with
    a := r.a
    f := r.f
    b := r.b
    c := r.c
    d := r.d
    e := r.e
    h := r.h
    l := r.l
    sp := r.sp
    pc := r.pc
    ime := r.ime
    halted := r.halted
    fatal := r.fatal
    eiPending := r.eiPending
    cycles := r.cycles }

/-- R22: F[3:0] is 0. -/
def FlagsClean (s : State) : Prop := s.f &&& 0x0F = 0

/-- The parameters are such as R7 allows, and the image has a cartridge (R101). -/
structure Config.Legal (c : Config) : Prop where
  romNonempty : 1 ≤ c.romLength
  cartridgeKnown : (cartridgeOfType (headerByte c 0x147)).isSome = true
  romCanonical : Memory.wf c.romLength c.rom = true
  bootRomCanonical : Memory.wf bootRomSize c.bootRom = true
  ramNonempty : 1 ≤ c.cartRamBytes
  ramInitCanonical : Memory.wf c.cartRamBytes c.cartRamInit = true
  idlePositive : 1 ≤ c.haltIdleCycles

/-- Every array is in its canonical form and holds nothing outside its size (R54, R55). -/
structure MemoriesCanonical (s : State) : Prop where
  ramNonempty : 1 ≤ s.cfg.cartRamBytes
  wram : Memory.wf wramSize s.wram = true
  hram : Memory.wf hramSize s.hram = true
  io : Memory.wf ioSize s.io = true
  vram : Memory.wf vramSize s.vram = true
  oam : Memory.wf oamSize s.oam = true
  cartRam : Memory.wf s.cfg.cartRamBytes s.cartRam = true

/-- The masked registers store only their stored bits: STAT[6:3] (R42) and P1[5:4] (R39). -/
def MasksKept (s : State) : Prop := s.statStored &&& 0x87 = 0 ∧ s.ioByte offP1 &&& 0xCF = 0

/-- The timer's sub-counters stay below their largest period (R51). -/
def SubCountersBounded (s : State) : Prop := s.divSub < 256 ∧ s.timaSub < 1024

/-- A bank register "where 0 is illegal" is not 0 (R113, R118, R122, R130). MBC5 may hold 0 (R126). -/
def BanksLegal (s : State) : Prop :=
  match s.cart with
  | .noMbc => True
  | .mbc1 r => r.bank1 ≠ 0
  | .mbc2 r => r.romBank ≠ 0
  | .mbc3 r => r.romBank ≠ 0
  | .mbc5 _ => True

/-- `ei_pending` does not exist under EI_DELAY = 0 (R30): the field stays false. -/
def EiPendingUnused (s : State) : Prop := s.cfg.eiDelay = false → s.eiPending = false

/-- The pixel buffer keeps its shape, 144 rows of 160 (R52, R434), and the shadow buffer its length. -/
structure FrameShape (s : State) : Prop where
  rows : s.fb.length = 144
  columns : ∀ row ∈ s.fb, row.length = 160
  indices : s.bgidx.length = 160

/-- The list of R340: sorted by time, with the Panic sentinel last and the only Panic entry. -/
structure ScheduleSorted (es : List Event) : Prop where
  sorted : es.Pairwise (fun x y => x.time ≤ y.time)
  sentinel : ∃ front, es = front ++ [panicSentinel] ∧ ∀ ev ∈ front, ev.kind ≠ .panic ∧ ev.time < panicTime

/-- The display controller and the scheduler agree (R348, R401, R402, R417): display off, no PPU entry and everything at
rest; display on, exactly one PPU entry, in the future and at most one VBlank line away, and LY in the range of the mode.
The window-line counter never passes the number of lines rendered in the frame (R432). -/
structure DisplayConsistent (s : State) : Prop where
  beforePanic : s.now < panicTime
  noModelFault : s.modelFault = none
  off : s.displayOn = false → s.mode = .hBlank ∧ s.ly = 0 ∧ s.wlc = 0 ∧ s.entries = [panicSentinel]
  on : s.displayOn = true →
    (∃ t, s.entries = [⟨t, .ppu⟩, panicSentinel] ∧ s.now < t ∧ t ≤ s.now + 456 ∧ t < panicTime)
      ∧ (if s.mode = .vBlank then 144 ≤ s.ly.toNat ∧ s.ly.toNat ≤ 153 else s.ly.toNat ≤ 143)
      ∧ (if s.mode = .oamScan then s.wlc ≤ s.ly.toNat else s.wlc ≤ s.ly.toNat + 1)

/-- The display's phase and its one entry's time: what R416 and R417 follow through a frame. -/
structure DisplayPhase where
  mode : PpuMode
  line : Nat
  deadline : Nat
deriving DecidableEq, Repr

/-- The phase the machine is in, where the display is on and its entry stands first in the list. -/
def State.phase (s : State) : Option DisplayPhase :=
  match s.displayOn, s.entries with
  | true, ⟨t, .ppu⟩ :: _ => some ⟨s.mode, s.ly.toNat, t⟩
  | _, _ => none

/-- The machine's display after its first entry has been popped and handled (R331, R347), the CPU standing still. -/
def nextPhase (s : State) : State :=
  match s.entries with
  | [] => s
  | ev :: rest => handleEvent ev { s with entries := rest }

/-- Everything the machine keeps from reset on. -/
structure Invariant (s : State) : Prop where
  legal : Config.Legal s.cfg
  flags : FlagsClean s
  memories : MemoriesCanonical s
  masks : MasksKept s
  subCounters : SubCountersBounded s
  banks : BanksLegal s
  eiPending : EiPendingUnused s
  frame : FrameShape s
  display : DisplayConsistent s

end Sys2Proof.Machine
end

