-- ==== Sys2Proof/Certificates/Slice0/Obligations.lean ====
section
/-! DEFINITION. The statements for the provers. Each docstring names the rules of spec/ it formalises. An equation
`exec i s = .next { … }` says that the instruction completes, what it writes, and, because the rest of the record is `s`,
that it changes nothing else; where a store appears, the bus statements say which bytes it may change. The result statements
begin with the encodings of their instructions, bit by bit; that the decoder reads those bytes so is `DecodeOfEncode`. -/

open Sys2Proof Sys2Proof.Machine

/-! Encoding. -/

/-- Words written out from the tables of R153 and R154, each decoding to the instruction it stands for; the truncated and
the empty list rejected by name. -/
def Obligations.SpecWordsDecode : Prop :=
  decode [0x00] = .ok (.nop, []) ∧ decode [0x41] = .ok (.ld_b_c, []) ∧ decode [0x3E, 0x15] = .ok (.ld_a_d8 0x15, [])
    ∧ decode [0x01, 0x34, 0x12] = .ok (.ld_bc_d16 0x1234, []) ∧ decode [0xF5] = .ok (.push_af, [])
    ∧ decode [0x9E] = .ok (.sbc_a_atHL, []) ∧ decode [0x39] = .ok (.add_hl_sp, [])
    ∧ decode [0xCB, 0x37] = .ok (.swap_a, []) ∧ decode [0xCB, 0x46] = .ok (.bit_0_atHL, [])
    ∧ decode [0x76] = .ok (.halt, []) ∧ decode [0xC4, 0x50, 0x01] = .ok (.call_nz_a16 0x0150, [])
    ∧ decode [0xE0, 0x40, 0x99] = .ok (.ldh_atA8_a 0x40, [0x99]) ∧ decode [] = .error .noOpcode
    ∧ decode [0xCB] = .error (.truncated 0xCB)

/-- Decoding an encoded instruction, whatever bytes follow it, gives it back with every operand (R140, R141, R153, R154). -/
def Obligations.DecodeOfEncode : Prop :=
  ∀ (i : Instr) (rest : List Byte), decode (encode i ++ rest) = .ok (i, rest)

/-- The other direction: the bytes of the instruction that any three bytes decode to are those bytes, cut to the length the
first one gives (R140, R158). -/
def Obligations.EncodeOfDecode : Prop :=
  ∀ b0 b1 b2 : Byte, encode (decodeBytes b0 b1 b2) = [b0, b1, b2].take (opcodeLength b0)

/-- R156, R157: the byte in opcode position names no instruction exactly for eleven values, and no CB sub-opcode does. -/
def Obligations.IllegalBytesExactly : Prop :=
  ∀ b0 b1 b2 : Byte, (decodeBytes b0 b1 b2).WellFormed = false ↔
    b0 ∈ [(0xD3 : Byte), 0xDB, 0xDD, 0xE3, 0xE4, 0xEB, 0xEC, 0xED, 0xF4, 0xFC, 0xFD]

/-! Results of the instructions, family by family. -/

/-- R170 to R174: LD r,r', LD r,n, LD r,(HL), LD (HL),r, LD (HL),n. -/
def Obligations.ByteLoadResults : Prop :=
  ∀ s : State,
    let hl := joinBytes s.h s.l
    ((∀ rd rs, encode (.ofLdReg rd rs) = [0b01#2 ++ rd.field ++ rs.field])
        ∧ (∀ rd n, encode (.ofLdImm rd n) = [0b00#2 ++ rd.field ++ 0b110#3, n])
        ∧ (∀ rd, encode (.ofLdFromHL rd) = [0b01#2 ++ rd.field ++ 0b110#3])
        ∧ (∀ rs, encode (.ofLdToHL rs) = [0b01110#5 ++ rs.field]) ∧ (∀ n, encode (.ld_atHL_d8 n) = [0x36, n]))
      ∧ (∀ rd rs, exec (.ofLdReg rd rs) s = .next { s.setReg rd (s.reg rs) with pc := s.pc + 1, cycles := 4 })
      ∧ (∀ rd n, exec (.ofLdImm rd n) s = .next { s.setReg rd n with pc := s.pc + 2, cycles := 8 })
      ∧ (∀ rd, exec (.ofLdFromHL rd) s = .next { s.setReg rd (busRead s hl) with pc := s.pc + 1, cycles := 8 })
      ∧ (∀ rs, exec (.ofLdToHL rs) s = .next { busWrite s hl (s.reg rs) with pc := s.pc + 1, cycles := 8 })
      ∧ (∀ n, exec (.ld_atHL_d8 n) s = .next { busWrite s hl n with pc := s.pc + 2, cycles := 12 })

/-- R175 to R178 and R185 to R188. -/
def Obligations.PointerLoadResults : Prop :=
  ∀ s : State,
    let bc := joinBytes s.b s.c
    let de := joinBytes s.d s.e
    let hl := joinBytes s.h s.l
    (encode .ld_a_atBC = [0x0A] ∧ encode .ld_a_atDE = [0x1A] ∧ encode .ld_a_atHLinc = [0x2A] ∧ encode .ld_a_atHLdec = [0x3A]
        ∧ encode .ld_atBC_a = [0x02] ∧ encode .ld_atDE_a = [0x12] ∧ encode .ld_atHLinc_a = [0x22]
        ∧ encode .ld_atHLdec_a = [0x32])
      ∧ exec .ld_a_atBC s = .next { s with a := busRead s bc, pc := s.pc + 1, cycles := 8 }
      ∧ exec .ld_a_atDE s = .next { s with a := busRead s de, pc := s.pc + 1, cycles := 8 }
      ∧ exec .ld_a_atHLinc s = .next { s with
          a := busRead s hl, h := highByte (hl + 1), l := lowByte (hl + 1), pc := s.pc + 1, cycles := 8 }
      ∧ exec .ld_a_atHLdec s = .next { s with
          a := busRead s hl, h := highByte (hl - 1), l := lowByte (hl - 1), pc := s.pc + 1, cycles := 8 }
      ∧ exec .ld_atBC_a s = .next { busWrite s bc s.a with pc := s.pc + 1, cycles := 8 }
      ∧ exec .ld_atDE_a s = .next { busWrite s de s.a with pc := s.pc + 1, cycles := 8 }
      ∧ exec .ld_atHLinc_a s = .next { busWrite s hl s.a with
          h := highByte (hl + 1), l := lowByte (hl + 1), pc := s.pc + 1, cycles := 8 }
      ∧ exec .ld_atHLdec_a s = .next { busWrite s hl s.a with
          h := highByte (hl - 1), l := lowByte (hl - 1), pc := s.pc + 1, cycles := 8 }

/-- R179 to R184. -/
def Obligations.AbsoluteLoadResults : Prop :=
  ∀ (s : State) (nn : Word) (n : Byte),
    (encode (.ld_a_atA16 nn) = [0xFA, lowByte nn, highByte nn] ∧ encode (.ld_atA16_a nn) = [0xEA, lowByte nn, highByte nn]
        ∧ encode .ldh_a_atC = [0xF2] ∧ encode .ldh_atC_a = [0xE2] ∧ encode (.ldh_a_atA8 n) = [0xF0, n]
        ∧ encode (.ldh_atA8_a n) = [0xE0, n])
      ∧ exec (.ld_a_atA16 nn) s = .next { s with a := busRead s nn, pc := s.pc + 3, cycles := 16 }
      ∧ exec (.ld_atA16_a nn) s = .next { busWrite s nn s.a with pc := s.pc + 3, cycles := 16 }
      ∧ exec .ldh_a_atC s = .next { s with a := busRead s (joinBytes 0xFF s.c), pc := s.pc + 1, cycles := 8 }
      ∧ exec .ldh_atC_a s = .next { busWrite s (joinBytes 0xFF s.c) s.a with pc := s.pc + 1, cycles := 8 }
      ∧ exec (.ldh_a_atA8 n) s = .next { s with a := busRead s (joinBytes 0xFF n), pc := s.pc + 2, cycles := 12 }
      ∧ exec (.ldh_atA8_a n) s = .next { busWrite s (joinBytes 0xFF n) s.a with pc := s.pc + 2, cycles := 12 }

/-- R200, R201, R202. `highByte` and `lowByte` are the halves of a word and `joinBytes` puts them together (R8, R21). -/
def Obligations.PairLoadResults : Prop :=
  ∀ (s : State) (nn : Word),
    (∀ hi lo : Byte, joinBytes hi lo = hi ++ lo ∧ highByte (hi ++ lo) = hi ∧ lowByte (hi ++ lo) = lo)
      ∧ ((∀ p, encode (.ofLdPair p nn) = [0b00#2 ++ RegPair.field p ++ 0b0001#4, lowByte nn, highByte nn])
        ∧ encode .ld_sp_hl = [0xF9] ∧ encode (.ld_atA16_sp nn) = [0x08, lowByte nn, highByte nn])
      ∧ exec (.ofLdPair .bc nn) s = .next { s with b := highByte nn, c := lowByte nn, pc := s.pc + 3, cycles := 12 }
      ∧ exec (.ofLdPair .de nn) s = .next { s with d := highByte nn, e := lowByte nn, pc := s.pc + 3, cycles := 12 }
      ∧ exec (.ofLdPair .hl nn) s = .next { s with h := highByte nn, l := lowByte nn, pc := s.pc + 3, cycles := 12 }
      ∧ exec (.ofLdPair .sp nn) s = .next { s with sp := nn, pc := s.pc + 3, cycles := 12 }
      ∧ exec .ld_sp_hl s = .next { s with sp := joinBytes s.h s.l, pc := s.pc + 1, cycles := 8 }
      ∧ exec (.ld_atA16_sp nn) s = .next { busWrite (busWrite s nn (lowByte s.sp)) (nn + 1) (highByte s.sp) with
          pc := s.pc + 3, cycles := 20 }

/-- R203, R204: the low byte at the new SP, the high byte above it; POP AF clears the low nibble of F. -/
def Obligations.PushPopResults : Prop :=
  ∀ s : State,
    let push (hi lo : Byte) : Result := .next { busWrite (busWrite s (s.sp - 2) lo) (s.sp - 1) hi with
      sp := s.sp - 2, pc := s.pc + 1, cycles := 16 }
    let lo := busRead s s.sp
    let hi := busRead s (s.sp + 1)
    ((∀ p, encode (.ofPush p) = [0b11#2 ++ StackPair.field p ++ 0b0101#4])
        ∧ (∀ p, encode (.ofPop p) = [0b11#2 ++ StackPair.field p ++ 0b0001#4]))
      ∧ (exec .push_bc s = push s.b s.c ∧ exec .push_de s = push s.d s.e
        ∧ exec .push_hl s = push s.h s.l ∧ exec .push_af s = push s.a s.f)
      ∧ exec .pop_bc s = .next { s with b := hi, c := lo, sp := s.sp + 2, pc := s.pc + 1, cycles := 12 }
      ∧ exec .pop_de s = .next { s with d := hi, e := lo, sp := s.sp + 2, pc := s.pc + 1, cycles := 12 }
      ∧ exec .pop_hl s = .next { s with h := hi, l := lo, sp := s.sp + 2, pc := s.pc + 1, cycles := 12 }
      ∧ exec .pop_af s = .next { s with a := hi, f := lo &&& 0xF0, sp := s.sp + 2, pc := s.pc + 1, cycles := 12 }

/-- R205, R253, R254, under both values of SPREL_FLAGS. -/
def Obligations.StackOffsetResults : Prop :=
  ∀ (s : State) (e : Byte),
    let res : Word := s.sp + e.signExtend 16
    let half : Bool := match s.cfg.sprelFlags with
      | .nibbleByte => decide (s.sp.toNat % 0x10 + e.toNat % 0x10 > 0x0F)
      | .byteWord => decide (s.sp.toNat % 0x100 + e.toNat > 0xFF)
    let carry : Bool := match s.cfg.sprelFlags with
      | .nibbleByte => decide (s.sp.toNat % 0x100 + e.toNat > 0xFF)
      | .byteWord => decide (s.sp.toNat + (e.signExtend 16).toNat > 0xFFFF)
    (encode (.ld_hl_sp_e8 e) = [0xF8, e] ∧ encode (.add_sp_e8 e) = [0xE8, e])
      ∧ exec (.ld_hl_sp_e8 e) s = .next { s with
        h := highByte res, l := lowByte res, f := flagsByte false false half carry, pc := s.pc + 2, cycles := 12 }
      ∧ exec (.add_sp_e8 e) s = .next { s with
          sp := res, f := flagsByte false false half carry, pc := s.pc + 2, cycles := 16 }

/-- R215 to R229: ADD, ADC, SUB and SBC in their three operand forms. F holds Z, N, Hf and Cy in bits 7 to 4 and zeros
below (R22), in every result that is written with `flagsByte`. -/
def Obligations.AddSubtractResults : Prop :=
  ∀ s : State,
    let add (cin : Bool) (v : Byte) (len : Word) (cost : Nat) : Result :=
      let res := s.a + v + (if cin then 1 else 0)
      let k := if cin then 1 else 0
      .next { s with
        a := res
        f := flagsByte (decide (res = 0)) false (decide (s.a.toNat % 16 + v.toNat % 16 + k > 0x0F))
          (decide (s.a.toNat + v.toNat + k > 0xFF))
        pc := s.pc + len
        cycles := cost }
    let sub (cin : Bool) (v : Byte) (len : Word) (cost : Nat) : Result :=
      let res := s.a - v - (if cin then 1 else 0)
      let k := if cin then 1 else 0
      .next { s with
        a := res
        f := flagsByte (decide (res = 0)) true (decide (s.a.toNat % 16 < v.toNat % 16 + k)) (decide (s.a.toNat < v.toNat + k))
        pc := s.pc + len
        cycles := cost }
    let m := busRead s (joinBytes s.h s.l)
    let cy := bitOf s.f 4
    (∀ z n h c : Bool, flagsByte z n h c =
        BitVec.ofBool z ++ BitVec.ofBool n ++ BitVec.ofBool h ++ BitVec.ofBool c ++ 0b0000#4)
      ∧ (∀ op ∈ [AluOp.add, .adc, .sub, .sbc], (∀ r, encode (.ofAluReg op r) = [0b10#2 ++ op.field ++ Reg8.field r])
        ∧ encode (.ofAluHL op) = [0b10#2 ++ op.field ++ 0b110#3]
        ∧ (∀ n, encode (.ofAluImm op n) = [0b11#2 ++ op.field ++ 0b110#3, n]))
      ∧ (∀ r, exec (.ofAluReg .add r) s = add false (s.reg r) 1 4 ∧ exec (.ofAluReg .adc r) s = add cy (s.reg r) 1 4
        ∧ exec (.ofAluReg .sub r) s = sub false (s.reg r) 1 4 ∧ exec (.ofAluReg .sbc r) s = sub cy (s.reg r) 1 4)
      ∧ (exec .add_a_atHL s = add false m 1 8 ∧ exec .adc_a_atHL s = add cy m 1 8 ∧ exec .sub_atHL s = sub false m 1 8
        ∧ exec .sbc_a_atHL s = sub cy m 1 8)
      ∧ (∀ n, exec (.add_a_d8 n) s = add false n 2 8 ∧ exec (.adc_a_d8 n) s = add cy n 2 8
        ∧ exec (.sub_d8 n) s = sub false n 2 8 ∧ exec (.sbc_a_d8 n) s = sub cy n 2 8)

/-- R230 to R241: AND, XOR, OR and CP in their three operand forms; CP writes the flags of SUB and leaves A. -/
def Obligations.LogicCompareResults : Prop :=
  ∀ s : State,
    let put (res : Byte) (half : Bool) (len : Word) (cost : Nat) : Result :=
      .next { s with a := res, f := flagsByte (decide (res = 0)) false half false, pc := s.pc + len, cycles := cost }
    let compare (v : Byte) (len : Word) (cost : Nat) : Result :=
      .next { s with
        f := flagsByte (decide (s.a - v = 0)) true (decide (s.a.toNat % 16 < v.toNat % 16)) (decide (s.a.toNat < v.toNat))
        pc := s.pc + len
        cycles := cost }
    let m := busRead s (joinBytes s.h s.l)
    (∀ op ∈ [AluOp.and, .xor, .or, .cp], (∀ r, encode (.ofAluReg op r) = [0b10#2 ++ op.field ++ Reg8.field r])
        ∧ encode (.ofAluHL op) = [0b10#2 ++ op.field ++ 0b110#3]
        ∧ (∀ n, encode (.ofAluImm op n) = [0b11#2 ++ op.field ++ 0b110#3, n]))
      ∧ (∀ r, exec (.ofAluReg .and r) s = put (s.a &&& s.reg r) true 1 4
        ∧ exec (.ofAluReg .xor r) s = put (s.a ^^^ s.reg r) false 1 4
        ∧ exec (.ofAluReg .or r) s = put (s.a ||| s.reg r) false 1 4 ∧ exec (.ofAluReg .cp r) s = compare (s.reg r) 1 4)
      ∧ (exec .and_atHL s = put (s.a &&& m) true 1 8 ∧ exec .xor_atHL s = put (s.a ^^^ m) false 1 8
        ∧ exec .or_atHL s = put (s.a ||| m) false 1 8 ∧ exec .cp_atHL s = compare m 1 8)
      ∧ (∀ n, exec (.and_d8 n) s = put (s.a &&& n) true 2 8 ∧ exec (.xor_d8 n) s = put (s.a ^^^ n) false 2 8
        ∧ exec (.or_d8 n) s = put (s.a ||| n) false 2 8 ∧ exec (.cp_d8 n) s = compare n 2 8)

/-- R242 to R245: INC and DEC of a byte, carry unchanged. -/
def Obligations.ByteCountResults : Prop :=
  ∀ s : State,
    let hl := joinBytes s.h s.l
    let m := busRead s hl
    let incF (v : Byte) : Byte := flagsByte (decide (v + 1 = 0)) false (decide (v.toNat % 16 = 15)) (bitOf s.f 4)
    let decF (v : Byte) : Byte := flagsByte (decide (v - 1 = 0)) true (decide (v.toNat % 16 = 0)) (bitOf s.f 4)
    ((∀ r, encode (.ofInc r) = [0b00#2 ++ Reg8.field r ++ 0b100#3] ∧ encode (.ofDec r) = [0b00#2 ++ Reg8.field r ++ 0b101#3])
        ∧ encode .inc_atHL = [0x34] ∧ encode .dec_atHL = [0x35])
      ∧ (∀ r, exec (.ofInc r) s = .next { s.setReg r (s.reg r + 1) with f := incF (s.reg r), pc := s.pc + 1, cycles := 4 }
        ∧ exec (.ofDec r) s = .next { s.setReg r (s.reg r - 1) with f := decF (s.reg r), pc := s.pc + 1, cycles := 4 })
      ∧ exec .inc_atHL s = .next { busWrite s hl (m + 1) with f := incF m, pc := s.pc + 1, cycles := 12 }
      ∧ exec .dec_atHL s = .next { busWrite s hl (m - 1) with f := decF m, pc := s.pc + 1, cycles := 12 }

/-- R246 to R249: DAA, CPL, SCF, CCF. DAA's correction is R246's, with the sums taken modulo 256. -/
def Obligations.AccumulatorAdjustResults : Prop :=
  ∀ s : State,
    let z := bitOf s.f 7
    let n := bitOf s.f 6
    let half := bitOf s.f 5
    let cy := bitOf s.f 4
    let high := cy || (!n && decide (s.a.toNat > 0x99))
    let low := half || (!n && decide (s.a.toNat % 16 > 9))
    let fix : Byte := (if high then 0x60 else 0x00) + (if low then 0x06 else 0x00)
    let res := if n then s.a - fix else s.a + fix
    (encode .daa = [0x27] ∧ encode .cpl = [0x2F] ∧ encode .scf = [0x37] ∧ encode .ccf = [0x3F])
      ∧ exec .daa s = .next { s with
        a := res, f := flagsByte (decide (res = 0)) n false high, pc := s.pc + 1, cycles := 4 }
      ∧ exec .cpl s = .next { s with a := ~~~s.a, f := flagsByte z true true cy, pc := s.pc + 1, cycles := 4 }
      ∧ exec .scf s = .next { s with f := flagsByte z false false true, pc := s.pc + 1, cycles := 4 }
      ∧ exec .ccf s = .next { s with f := flagsByte z false false (!cy), pc := s.pc + 1, cycles := 4 }

/-- R250, R251, R252. -/
def Obligations.PairArithmeticResults : Prop :=
  ∀ s : State,
    let hl := joinBytes s.h s.l
    (∀ p, encode (.ofAddHL p) = [0b00#2 ++ RegPair.field p ++ 0b1001#4]
        ∧ encode (.ofIncPair p) = [0b00#2 ++ RegPair.field p ++ 0b0011#4]
        ∧ encode (.ofDecPair p) = [0b00#2 ++ RegPair.field p ++ 0b1011#4])
      ∧ (∀ p, exec (.ofAddHL p) s = .next { s with
        h := highByte (hl + s.pair p)
        l := lowByte (hl + s.pair p)
        f := flagsByte (bitOf s.f 7) false (decide (hl.toNat % 0x1000 + (s.pair p).toNat % 0x1000 > 0x0FFF))
          (decide (hl.toNat + (s.pair p).toNat > 0xFFFF))
        pc := s.pc + 1
        cycles := 8 })
      ∧ (∀ p, exec (.ofIncPair p) s = .next { s.setPair p (s.pair p + 1) with pc := s.pc + 1, cycles := 8 })
      ∧ (∀ p, exec (.ofDecPair p) s = .next { s.setPair p (s.pair p - 1) with pc := s.pc + 1, cycles := 8 })

/-- R260 to R281: the accumulator rotates, which always clear Z, and the rotates, shifts and SWAP of the CB page, on a register
and on (HL). -/
def Obligations.RotateShiftResults : Prop :=
  ∀ s : State,
    let cy := bitOf s.f 4
    let result (op : RotOp) (v : Byte) : Byte × Bool := match op with
      | .rlc => (v.rotateLeft 1, bitOf v 7)
      | .rrc => (v.rotateRight 1, bitOf v 0)
      | .rl => (v.extractLsb' 0 7 ++ BitVec.ofBool cy, bitOf v 7)
      | .rr => (BitVec.ofBool cy ++ v.extractLsb' 1 7, bitOf v 0)
      | .sla => (v + v, bitOf v 7)
      | .sra => (v.sshiftRight 1, bitOf v 0)
      | .swap => (v.extractLsb' 0 4 ++ v.extractLsb' 4 4, false)
      | .srl => (v >>> 1, bitOf v 0)
    let onA (x : Byte × Bool) : Result :=
      .next { s with a := x.1, f := flagsByte false false false x.2, pc := s.pc + 1, cycles := 4 }
    let flags (x : Byte × Bool) : Byte := flagsByte (decide (x.1 = 0)) false false x.2
    let hl := joinBytes s.h s.l
    ((encode .rlca = [0x07] ∧ encode .rrca = [0x0F] ∧ encode .rla = [0x17] ∧ encode .rra = [0x1F])
        ∧ (∀ op r, encode (.ofRot op r) = [0xCB, 0b00#2 ++ RotOp.field op ++ Reg8.field r])
        ∧ (∀ op, encode (.ofRotHL op) = [0xCB, 0b00#2 ++ RotOp.field op ++ 0b110#3]))
      ∧ (exec .rlca s = onA (result .rlc s.a) ∧ exec .rrca s = onA (result .rrc s.a) ∧ exec .rla s = onA (result .rl s.a)
        ∧ exec .rra s = onA (result .rr s.a))
      ∧ (∀ op r, exec (.ofRot op r) s = .next { s.setReg r (result op (s.reg r)).1 with
          f := flags (result op (s.reg r)), pc := s.pc + 2, cycles := 8 })
      ∧ (∀ op, exec (.ofRotHL op) s = .next { busWrite s hl (result op (busRead s hl)).1 with
          f := flags (result op (busRead s hl)), pc := s.pc + 2, cycles := 16 })

/-- R282, R283: BIT. -/
def Obligations.BitTestResults : Prop :=
  ∀ (s : State) (k : Bit3),
    let flags (v : Byte) : Byte := flagsByte (!v.getLsbD k.toNat) false true (bitOf s.f 4)
    ((∀ r, encode (.ofBit k r) = [0xCB, 0b01#2 ++ k.field ++ Reg8.field r])
        ∧ encode (.ofBitHL k) = [0xCB, 0b01#2 ++ k.field ++ 0b110#3])
      ∧ (∀ r, exec (.ofBit k r) s = .next { s with f := flags (s.reg r), pc := s.pc + 2, cycles := 8 })
      ∧ exec (.ofBitHL k) s = .next { s with
          f := flags (busRead s (joinBytes s.h s.l)), pc := s.pc + 2, cycles := 12 }

/-- R284 to R287: RES and SET put one bit and leave the seven others; no flag changes, and the (HL) forms always store. -/
def Obligations.BitSetResetResults : Prop :=
  ∀ (s : State) (k : Bit3),
    let put (v : Byte) (b : Bool) (w : Byte) : Prop :=
      ∀ j, j < 8 → w.getLsbD j = if j = k.toNat then b else v.getLsbD j
    let hl := joinBytes s.h s.l
    ((∀ r, encode (.ofRes k r) = [0xCB, 0b10#2 ++ k.field ++ Reg8.field r]
          ∧ encode (.ofSet k r) = [0xCB, 0b11#2 ++ k.field ++ Reg8.field r])
        ∧ encode (.ofResHL k) = [0xCB, 0b10#2 ++ k.field ++ 0b110#3]
        ∧ encode (.ofSetHL k) = [0xCB, 0b11#2 ++ k.field ++ 0b110#3])
      ∧ (∀ r b, ∃ w, put (s.reg r) b w
        ∧ exec (if b then .ofSet k r else .ofRes k r) s = .next { s.setReg r w with pc := s.pc + 2, cycles := 8 })
      ∧ (∀ b, ∃ w, put (busRead s hl) b w
          ∧ exec (if b then .ofSetHL k else .ofResHL k) s =
            .next { busWrite s hl w with pc := s.pc + 2, cycles := 16 })

/-- R14, R291 to R295. -/
def Obligations.JumpResults : Prop :=
  ∀ (s : State) (nn : Word) (e : Byte),
    let holds (cc : Cond) : Bool := match cc with
      | .nz => !bitOf s.f 7
      | .z => bitOf s.f 7
      | .nc => !bitOf s.f 4
      | .c => bitOf s.f 4
    (encode (.jp_a16 nn) = [0xC3, lowByte nn, highByte nn] ∧ encode .jp_hl = [0xE9] ∧ encode (.jr_e8 e) = [0x18, e]
        ∧ (∀ cc, encode (.ofJp cc nn) = [0b110#3 ++ Cond.field cc ++ 0b010#3, lowByte nn, highByte nn]
          ∧ encode (.ofJr cc e) = [0b001#3 ++ Cond.field cc ++ 0b000#3, e]))
      ∧ exec (.jp_a16 nn) s = .next { s with pc := nn, cycles := 16 }
      ∧ exec .jp_hl s = .next { s with pc := joinBytes s.h s.l, cycles := 4 }
      ∧ exec (.jr_e8 e) s = .next { s with pc := s.pc + 2 + e.signExtend 16, cycles := 12 }
      ∧ (∀ cc, exec (.ofJp cc nn) s = .next { s with
          pc := if holds cc then nn else s.pc + 3, cycles := if holds cc then 16 else 12 })
      ∧ (∀ cc, exec (.ofJr cc e) s = .next { s with
          pc := if holds cc then s.pc + 2 + e.signExtend 16 else s.pc + 2, cycles := if holds cc then 12 else 8 })

/-- R14, R296, R297, R303. -/
def Obligations.CallResults : Prop :=
  ∀ (s : State) (nn : Word),
    let holds (cc : Cond) : Bool := match cc with
      | .nz => !bitOf s.f 7
      | .z => bitOf s.f 7
      | .nc => !bitOf s.f 4
      | .c => bitOf s.f 4
    let call (target ret : Word) (cost : Nat) : Result :=
      .next { busWrite (busWrite s (s.sp - 2) (lowByte ret)) (s.sp - 1) (highByte ret) with
        sp := s.sp - 2, pc := target, cycles := cost }
    (encode (.call_a16 nn) = [0xCD, lowByte nn, highByte nn]
        ∧ (∀ cc, encode (.ofCall cc nn) = [0b110#3 ++ Cond.field cc ++ 0b100#3, lowByte nn, highByte nn])
        ∧ (∀ k, encode (.ofRst k) = [0b11#2 ++ Bit3.field k ++ 0b111#3]))
      ∧ exec (.call_a16 nn) s = call nn (s.pc + 3) 24
      ∧ (∀ cc, exec (.ofCall cc nn) s =
          if holds cc then call nn (s.pc + 3) 24 else .next { s with pc := s.pc + 3, cycles := 12 })
      ∧ (∀ k : Bit3, exec (.ofRst k) s = call (BitVec.ofNat 16 (8 * k.toNat)) (s.pc + 1) 16)

/-- R14, R298, R299, R300. -/
def Obligations.ReturnResults : Prop :=
  ∀ s : State,
    let holds (cc : Cond) : Bool := match cc with
      | .nz => !bitOf s.f 7
      | .z => bitOf s.f 7
      | .nc => !bitOf s.f 4
      | .c => bitOf s.f 4
    let target := joinBytes (busRead s (s.sp + 1)) (busRead s s.sp)
    (encode .ret = [0xC9] ∧ encode .reti = [0xD9] ∧ (∀ cc, encode (.ofRet cc) = [0b110#3 ++ Cond.field cc ++ 0b000#3]))
      ∧ exec .ret s = .next { s with pc := target, sp := s.sp + 2, cycles := 16 }
      ∧ exec .reti s = .next { s with pc := target, sp := s.sp + 2, ime := true, cycles := 16 }
      ∧ (∀ cc, exec (.ofRet cc) s =
          if holds cc then .next { s with pc := target, sp := s.sp + 2, cycles := 20 }
          else .next { s with pc := s.pc + 1, cycles := 8 })

/-- R310 to R314, under both values of STOP_MODE and EI_DELAY. That Fatal is
answered as a next state with the record set is the model's form (log 7), and that the field of `ei_pending` is left alone
where EI_DELAY = 0 gives it no existence is too (log 12). -/
def Obligations.MiscResults : Prop :=
  ∀ s : State,
    (encode .nop = [0x00] ∧ encode .halt = [0x76] ∧ encode .di = [0xF3] ∧ encode .ei = [0xFB]
        ∧ (∀ pad, encode (.stop pad) = [0x10, pad]))
      ∧ exec .nop s = .next { s with pc := s.pc + 1, cycles := 4 }
      ∧ exec .halt s = .next { s with halted := true, pc := s.pc + 1, cycles := 4 }
      ∧ exec .di s = .next { s with
          ime := false, eiPending := if s.cfg.eiDelay then false else s.eiPending, pc := s.pc + 1, cycles := 4 }
      ∧ exec .ei s = .next { s with
          ime := if s.cfg.eiDelay then s.ime else true
          eiPending := if s.cfg.eiDelay then true else s.eiPending
          pc := s.pc + 1
          cycles := 4 }
      ∧ (∀ pad, s.cfg.stopMode = .nop2 → exec (.stop pad) s = .next { s with pc := s.pc + 2, cycles := 4 })
      ∧ (∀ pad, s.cfg.stopMode = .fatal → exec (.stop pad) s = .next { s with fatal := some ⟨0x10, s.pc⟩ })

/-- R315: each of the eleven illegal bytes sets the fatal record and changes nothing else; that the answer is a next state is the
model's form (log 7). -/
def Obligations.IllegalByteResults : Prop :=
  ∀ s : State,
    let stopped (b : Byte) : Result := .next { s with fatal := some ⟨b, s.pc⟩ }
    exec .illegal_D3 s = stopped 0xD3 ∧ exec .illegal_DB s = stopped 0xDB ∧ exec .illegal_DD s = stopped 0xDD
      ∧ exec .illegal_E3 s = stopped 0xE3 ∧ exec .illegal_E4 s = stopped 0xE4 ∧ exec .illegal_EB s = stopped 0xEB
      ∧ exec .illegal_EC s = stopped 0xEC ∧ exec .illegal_ED s = stopped 0xED ∧ exec .illegal_F4 s = stopped 0xF4
      ∧ exec .illegal_FC s = stopped 0xFC ∧ exec .illegal_FD s = stopped 0xFD

/-! Arithmetic seen as a whole. -/

/-- The carry chain (R216, R217, R255): ADD then ADC adds two words, SUB then SBC subtracts them, and the last carry is the
word's. -/
def Obligations.CarryChain : Prop :=
  ∀ x y : Word,
    let a0 := add8 (lowByte x) (lowByte y) false
    let a1 := add8 (highByte x) (highByte y) a0.c
    let s0 := sub8 (lowByte x) (lowByte y) false
    let s1 := sub8 (highByte x) (highByte y) s0.c
    joinBytes a1.res a0.res = x + y ∧ a1.c = decide (x.toNat + y.toNat > 0xFFFF)
      ∧ joinBytes s1.res s0.res = x - y ∧ s1.c = decide (x.toNat < y.toNat)

/-- What DAA is for (R246: "It corrects A to packed binary-coded decimal"): after a packed-decimal addition or subtraction
with carry, DAA gives the packed-decimal result and the decimal carry. -/
def Obligations.DecimalAdjust : Prop :=
  ∀ (m n : Nat) (cin : Bool), m < 100 → n < 100 →
    let bcd (k : Nat) : Byte := BitVec.ofNat 8 (16 * (k / 10) + k % 10)
    let k := if cin then 1 else 0
    let sum := add8 (bcd m) (bcd n) cin
    let diff := sub8 (bcd m) (bcd n) cin
    daaAdjust sum.res false sum.h sum.c = (bcd ((m + n + k) % 100), decide (m + n + k ≥ 100))
      ∧ daaAdjust diff.res true diff.h diff.c = (bcd ((m + 100 - n - k) % 100), decide (m < n + k))

/-! The step. -/

/-- R331, R335, R337: a step that dispatches nothing and is not halted runs the instruction that the bytes at the program counter
decode to. Before it stands only the wake of R366, which ends a halt where a source is pending and enabled; after it the EI_DELAY
clause and the rest of the machine step (`StepAdvancesTime`); a step that raised Fatal ends there with the record alone changed
(log 7). -/
def Obligations.StepRunsDecoded : Prop :=
  ∀ (s : State) (i : Instr) (rest : List Byte),
    let pending := s.ie &&& Memory.read s.io 0x0F &&& 0x1F
    let woken := if pending = 0 then s else { s with halted := false }
    s.fatal = none → s.modelFault = none → (s.ime = false ∨ pending = 0) → woken.halted = false →
    decode [busRead s s.pc, busRead s (s.pc + 1), busRead s (s.pc + 2)] = .ok (i, rest) →
    step s = match exec i woken with
      | .next t =>
        if t.fatal.isSome then .next { s with fatal := t.fatal }
        else if s.cfg.eiDelay && s.eiPending && t.eiPending then finishStep { t with ime := true, eiPending := false }
        else finishStep t
      | .fault e => .fault e
      | .refused r => .refused r

/-- R363, R364, R367, R368: with `ime` set, the lowest pending and enabled source is dispatched: its flag cleared and no
other, the program counter pushed, the vector 0x40 + 8i, `ime` cleared, 20 cycles, and no instruction run. -/
def Obligations.InterruptDispatch : Prop :=
  ∀ (s : State) (i : Nat),
    let pending := s.ie &&& Memory.read s.io 0x0F
    s.fatal = none → s.modelFault = none → s.ime = true → i < 5 →
    pending.getLsbD i = true → (∀ j, j < i → pending.getLsbD j = false) →
    step s = finishStep { busWrite
        (busWrite { s with io := Memory.write s.io 0x0F (Memory.read s.io 0x0F &&& ~~~((1 : Byte) <<< i)) }
          (s.sp - 2) (lowByte s.pc)) (s.sp - 1) (highByte s.pc) with
      sp := s.sp - 2, pc := BitVec.ofNat 16 (0x40 + 8 * i), ime := false, halted := false, cycles := 20 }

/-- R336, R366: a halted step with nothing pending and enabled costs HALT_IDLE_CYCLES and touches no CPU state and no bus; with
`ime` clear, a pending enabled source ends the halt, and the step runs the instruction at the program counter, with no vector
taken and no flag cleared. -/
def Obligations.HaltSteps : Prop :=
  (∀ s : State, s.fatal = none → s.modelFault = none → s.halted = true → s.ie &&& s.ifReg &&& 0x1F = 0 →
      step s = finishStep { s with cycles := s.cfg.haltIdleCycles })
    ∧ (∀ s t : State, s.fatal = none → s.modelFault = none → s.ime = false → s.ie &&& s.ifReg &&& 0x1F ≠ 0 →
        exec (decodeBytes (busRead s s.pc) (busRead s (s.pc + 1)) (busRead s (s.pc + 2))) { s with halted := false } =
          .next t → t.fatal = none → s.cfg.eiDelay = false → step s = finishStep t)

/-- R29, R331, R360: the fatal decode error changes the fatal record alone, and after it there is no further step. That the
stop takes two steps, a next state with the record and then the fault, is the model's form (log 7). -/
def Obligations.FatalStep : Prop :=
  (∀ (s : State) (b : Byte),
      let pending := s.ie &&& Memory.read s.io 0x0F &&& 0x1F
      s.fatal = none → s.modelFault = none → (s.ime = false ∨ pending = 0) → (s.halted = false ∨ pending ≠ 0) →
      busRead s s.pc = b → b ∈ [(0xD3 : Byte), 0xDB, 0xDD, 0xE3, 0xE4, 0xEB, 0xEC, 0xED, 0xF4, 0xFC, 0xFD] →
      step s = .next { s with fatal := some ⟨b, s.pc⟩ })
    ∧ (∀ (s : State) (r : FatalRecord), s.fatal = some r → step s = .fault (.fatalDecode r.opcode r.addr))

/-- A rule of the whole instruction set (R27, R28, R29, R316): only EI and RETI set `ime`, only DI clears it, only HALT sets
`halted`, no instruction clears it, and only the illegal bytes and STOP set the fatal record
(with a next state: log 7). -/
def Obligations.ControlBitsOwners : Prop :=
  ∀ (i : Instr) (s t : State), exec i s = .next t →
    (t.ime = s.ime ∨ (t.ime = true ∧ (i = .ei ∨ i = .reti)) ∨ (t.ime = false ∧ i = .di))
      ∧ (t.halted = s.halted ∨ (t.halted = true ∧ i = .halt))
      ∧ (t.fatal = s.fatal ∨ i.WellFormed = false ∨ ∃ pad, i = .stop pad)

/-- R331, R332, R334, R338, R346, R347, R381: the rest of a machine step. A completed step advances the counter by the cost it
returns, 4 to 24 cycles unless it was a halted idle one. `finishStep`, which ends the steps of `StepRunsDecoded`,
`InterruptDispatch` and `HaltSteps`, pushes the Timers entry at the advanced counter; takes entries from the front, handled by
kind, exactly as long as the first is due; and applies the key event last. So with nothing else due it is the timer advanced by
the cost, then the key event. What `timerAdvance`, `ppuEvent`, `schedPush` and `hostKey` do is in `DivCounts`, `TimaCounts`,
`DisplayInterrupts`, `RenderFrame`, `PushKeepsOrder` and `KeyEventEffect`. That a step with Fatal answers next, and does not
advance the counter, is the model's form (log 7), and so is that a model fault of R343 or R344 is latched, ends the loop and is
the step's answer (log 8). -/
def Obligations.StepAdvancesTime : Prop :=
  (∀ s t : State, step s = .next t →
      (t.fatal = none →
          t.now = s.now + t.cycles ∧ ((4 ≤ t.cycles ∧ t.cycles ≤ 24) ∨ t.cycles = s.cfg.haltIdleCycles))
        ∧ (t.fatal ≠ none → t.now = s.now))
    ∧ ∀ t : State,
      let later := { t with now := t.now + t.cycles }
      let due (u : State) : Prop := u.modelFault = none ∧ ∃ ev rest, u.entries = ev :: rest ∧ ev.time ≤ u.now
      let turn (u : State) : State := match u.entries with
        | [] => u
        | ev :: rest =>
          let popped := { u with entries := rest }
          match ev.kind with
          | .none => popped
          | .apu => popped
          | .ppu => ppuEvent ev.time popped
          | .timers => timerAdvance t.cycles popped
          | .panic => { popped with modelFault := some .schedulerPanic }
      let answer (u : State) : Result := match u.modelFault with
        | none => .next (hostKey u)
        | some .schedulerOverflow => .fault .schedulerOverflow
        | some .schedulerPanic => .fault .schedulerPanic
      let pushed := schedPush later later.now .timers
      (∃ n, (∀ k, k < n → due (Nat.repeat turn k pushed)) ∧ ¬due (Nat.repeat turn n pushed)
          ∧ finishStep t = answer (Nat.repeat turn n pushed))
        ∧ (t.modelFault = none → later.now < panicTime → t.entries.length < 32 →
          (∀ ev ∈ t.entries, later.now < ev.time) → finishStep t = .next (hostKey (timerAdvance t.cycles later)))

/-- R108, R461, R467: no step changes the parameters (the ROM image and the boot ROM among them), and no step maps the boot
overlay again. -/
def Obligations.StepKeepsParameters : Prop :=
  ∀ s t : State, step s = .next t → t.cfg = s.cfg ∧ (s.bootActive = false → t.bootActive = false)

/-- R12, R203, R204, R296, R298, R303, R368 to R370: on a stack in work RAM, what any PUSH pushes is what any POP pops (POP AF
clearing the low nibble), a RET after a CALL or an RST returns to the instruction after it, and RETI after an interrupt entry
to the interrupted instruction, with interrupts enabled. A stack elsewhere (in ROM, in I/O, in a locked region) may lose the
bytes, as R203 and R296 say; the bus statements say how. -/
def Obligations.StackRoundTrip : Prop :=
  ∀ (s t u : State) (nn : Word) (i : Nat), MemoriesCanonical s → 0xC002 ≤ s.sp.toNat → s.sp.toNat ≤ 0xE000 →
    let high (x : State) (p : StackPair) : Byte := match p with
      | .bc => x.b
      | .de => x.d
      | .hl => x.h
      | .af => x.a
    let low (x : State) (p : StackPair) : Byte := match p with
      | .bc => x.c
      | .de => x.e
      | .hl => x.l
      | .af => x.f
    (∀ p q, exec (.ofPush p) s = .next t → exec (.ofPop q) t = .next u →
        high u q = high s p ∧ low u q = (if q = .af then low s p &&& 0xF0 else low s p) ∧ u.sp = s.sp)
      ∧ (exec (.call_a16 nn) s = .next t → exec .ret t = .next u → u.pc = s.pc + 3 ∧ u.sp = s.sp)
      ∧ (∀ k, exec (.ofRst k) s = .next t → exec .ret t = .next u → u.pc = s.pc + 1 ∧ u.sp = s.sp)
      ∧ (exec .reti (interruptEntry i s) = .next t → t.pc = s.pc ∧ t.sp = s.sp ∧ t.ime = true)

/-! The bus. -/

/-- R66, R67, R70, R72 to R74, R78, R79: the cell that an address of work RAM (or its echo), high RAM, IE, unlocked video RAM or
unlocked OAM names, for a read and for a store: the byte of the array that the other agents use, and after a store nothing else
changed. An array holds after a store the byte stored at its index and every other byte as before. So a stored byte reads back at
the same address, and one stored in work RAM at its echo, and one stored in the echo at its base. -/
def Obligations.StoreReadsBack : Prop :=
  ∀ (s : State) (a : Word) (v : Byte),
    let vramOpen : Prop := bitOf (Memory.read s.io 0x40) 7 = false ∨ s.mode ≠ .pixelTransfer
    let oamOpen : Prop := bitOf (Memory.read s.io 0x40) 7 = false ∨ (s.mode ≠ .oamScan ∧ s.mode ≠ .pixelTransfer)
    let inWram : Prop := 0xC000 ≤ a.toNat ∧ a.toNat ≤ 0xFDFF
    let inHram : Prop := 0xFF80 ≤ a.toNat ∧ a.toNat ≤ 0xFFFE
    let inVram : Prop := 0x8000 ≤ a.toNat ∧ a.toNat ≤ 0x9FFF ∧ vramOpen
    let inOam : Prop := 0xFE00 ≤ a.toNat ∧ a.toNat ≤ 0xFE9F ∧ oamOpen
    let back := busRead (busWrite s a v)
    (inWram →
        let k := (a.toNat - 0xC000) % 0x2000
        busRead s a = Memory.read s.wram k ∧ busWrite s a v = { s with wram := Memory.write s.wram k v })
      ∧ (inHram →
        let k := a.toNat - 0xFF80
        busRead s a = Memory.read s.hram k ∧ busWrite s a v = { s with hram := Memory.write s.hram k v })
      ∧ (busRead s 0xFFFF = s.ie ∧ busWrite s 0xFFFF v = { s with ie := v })
      ∧ (inVram →
        let k := a.toNat - 0x8000
        busRead s a = Memory.read s.vram k ∧ busWrite s a v = { s with vram := Memory.write s.vram k v })
      ∧ (inOam →
        let k := a.toNat - 0xFE00
        busRead s a = Memory.read s.oam k ∧ busWrite s a v = { s with oam := Memory.write s.oam k v })
      ∧ (∀ (m : Memory) (size k j : Nat), Memory.wf size m = true →
          Memory.read (Memory.write m k v) j = if j = k then v else Memory.read m j)
      ∧ (MemoriesCanonical s → inWram ∨ inHram ∨ a = 0xFFFF ∨ inVram ∨ inOam → back a = v
        ∧ (0xC000 ≤ a.toNat ∧ a.toNat ≤ 0xDDFF → back (a + 0x2000) = v)
        ∧ (0xE000 ≤ a.toNat ∧ a.toNat ≤ 0xFDFF → back (a - 0x2000) = v))

/-- R66, R67, R82: a store outside the cartridge registers and the I/O registers changes what is read at no address but those
that name the same cell: the address itself, in work RAM its echo, in the cartridge RAM window the addresses that the bank
arithmetic of the variant folds onto the same byte. In each region it changes that region's array and nothing else of the machine:
no register, flag or hidden bit of the CPU, no counter, no event, nothing of the display (`StoreReadsBack` and `CartRamGate` say
which byte of the array). -/
def Obligations.StorageStoreFrame : Prop :=
  ∀ (s : State) (a : Word) (v : Byte),
    (∀ b : Word, (0x8000 ≤ a.toNat ∧ a.toNat < 0xFF00) ∨ 0xFF80 ≤ a.toNat → a ≠ b →
      ¬(0xC000 ≤ a.toNat ∧ a.toNat ≤ 0xFDFF ∧ 0xC000 ≤ b.toNat ∧ b.toNat ≤ 0xFDFF ∧ a.toNat % 0x2000 = b.toNat % 0x2000) →
      ¬(0xA000 ≤ a.toNat ∧ a.toNat ≤ 0xBFFF ∧ 0xA000 ≤ b.toNat ∧ b.toNat ≤ 0xBFFF
          ∧ cartRamTarget s.cfg s.cart a.toNat = cartRamTarget s.cfg s.cart b.toNat) →
      busRead (busWrite s a v) b = busRead s b)
      ∧ (0x8000 ≤ a.toNat → a.toNat ≤ 0x9FFF → ∃ m, busWrite s a v = { s with vram := m })
      ∧ (0xA000 ≤ a.toNat → a.toNat ≤ 0xBFFF → ∃ m, busWrite s a v = { s with cartRam := m })
      ∧ (0xC000 ≤ a.toNat → a.toNat ≤ 0xFDFF → ∃ m, busWrite s a v = { s with wram := m })
      ∧ (0xFE00 ≤ a.toNat → a.toNat ≤ 0xFE9F → ∃ m, busWrite s a v = { s with oam := m })
      ∧ (0xFEA0 ≤ a.toNat → a.toNat ≤ 0xFEFF → busWrite s a v = s)
      ∧ (0xFF80 ≤ a.toNat → a.toNat ≤ 0xFFFE → ∃ m, busWrite s a v = { s with hram := m })
      ∧ busWrite s 0xFFFF v = { s with ie := v }

/-- R77, R82, R413, R414: what a store to an I/O register can change elsewhere: LYC the comparison bit of STAT; the OAM copy
register OAM; the boot register the overlay; LCDC the display's registers and what the locks hide; the others nothing. -/
def Obligations.IoStoreFrame : Prop :=
  ∀ (s : State) (a b : Word) (v : Byte), 0xFF00 ≤ a.toNat → a.toNat ≤ 0xFF7F → a ≠ b →
    (a = 0xFF45 → b ≠ 0xFF41) →
    (a = 0xFF46 → ¬(0xFE00 ≤ b.toNat ∧ b.toNat ≤ 0xFE9F)) →
    (a = 0xFF50 → 0x0100 ≤ b.toNat) →
    (a = 0xFF40 → b ≠ 0xFF41 ∧ b ≠ 0xFF44 ∧ ¬(0x8000 ≤ b.toNat ∧ b.toNat ≤ 0x9FFF)
      ∧ ¬(0xFE00 ≤ b.toNat ∧ b.toNat ≤ 0xFE9F)) →
    busRead (busWrite s a v) b = busRead s b

/-- R69, R108: a store into ROM addresses changes the cartridge's registers and nothing else; in particular every address
outside the switched windows reads as before. -/
def Obligations.BankStoreFrame : Prop :=
  ∀ (s : State) (a b : Word) (v : Byte), a.toNat ≤ 0x7FFF →
    (∃ c, busWrite s a v = { s with cart := c })
      ∧ (¬(0x4000 ≤ b.toNat ∧ b.toNat ≤ 0x7FFF) → ¬(0xA000 ≤ b.toNat ∧ b.toNat ≤ 0xBFFF) →
          busRead (busWrite s a v) b = busRead s b)

/-- R70, R74, R75, R418: a locked region and the unusable range read 0xFF and drop writes. -/
def Obligations.LockedAndUnusable : Prop :=
  ∀ (s : State) (a : Word) (v : Byte),
    ((0x8000 ≤ a.toNat ∧ a.toNat ≤ 0x9FFF ∧ bitOf (Memory.read s.io 0x40) 7 = true ∧ s.mode = .pixelTransfer)
      ∨ (0xFE00 ≤ a.toNat ∧ a.toNat ≤ 0xFE9F ∧ bitOf (Memory.read s.io 0x40) 7 = true
          ∧ (s.mode = .oamScan ∨ s.mode = .pixelTransfer))
      ∨ (0xFEA0 ≤ a.toNat ∧ a.toNat ≤ 0xFEFF)) →
    busRead s a = 0xFF ∧ busWrite s a v = s

/-- R35, R39, R42, R44, R49, R77: the I/O registers whose write is not a plain store. -/
def Obligations.IoRegisterWrites : Prop :=
  ∀ (s : State) (v : Byte),
    busWrite s 0xFF04 v = { s with io := Memory.write s.io 0x04 0, divSub := 0 }
      ∧ busWrite s 0xFF41 v = { s with io := Memory.write s.io 0x41 (v &&& 0x78) }
      ∧ busWrite s 0xFF00 v = { s with io := Memory.write s.io 0x00 (v &&& 0x30) }
      ∧ busWrite s 0xFF44 v = s
      ∧ busWrite s 0xFF50 v = { s with io := Memory.write s.io 0x50 v, bootActive := false }
      ∧ (∀ a : Word, 0xFF00 ≤ a.toNat → a.toNat ≤ 0xFF7F →
          a ∉ [(0xFF00 : Word), 0xFF04, 0xFF40, 0xFF41, 0xFF44, 0xFF46, 0xFF50] →
          busWrite s a v = { s with io := Memory.write s.io (a.toNat - 0xFF00) v })

/-- R39, R42, R76, R380: what the I/O registers read as. STAT and P1 bit by bit ("while the display is disabled the mode reads
0", R42); at every other address the byte of the array, DIV, TIMA, IF and LY among them. -/
def Obligations.ComposedRegisterReads : Prop :=
  ∀ s : State,
    let stat := busRead s 0xFF41
    let p1 := busRead s 0xFF00
    let dir := !(Memory.read s.io 0x00).getLsbD 4
    let act := !(Memory.read s.io 0x00).getLsbD 5
    (stat.getLsbD 7 = true ∧ (∀ k, 3 ≤ k → k ≤ 6 → stat.getLsbD k = (Memory.read s.io 0x41).getLsbD k)
        ∧ stat.getLsbD 2 = decide (Memory.read s.io 0x44 = Memory.read s.io 0x45)
        ∧ stat.extractLsb' 0 2 = if bitOf (Memory.read s.io 0x40) 7 then
            (match s.mode with | .hBlank => 0#2 | .vBlank => 1#2 | .oamScan => 2#2 | .pixelTransfer => 3#2) else 0#2)
      ∧ (p1.getLsbD 7 = true ∧ p1.getLsbD 6 = true ∧ p1.getLsbD 5 = !act ∧ p1.getLsbD 4 = !dir
        ∧ p1.getLsbD 0 = !((dir && s.pressed.right) || (act && s.pressed.a))
        ∧ p1.getLsbD 1 = !((dir && s.pressed.left) || (act && s.pressed.b))
        ∧ p1.getLsbD 2 = !((dir && s.pressed.up) || (act && s.pressed.select))
        ∧ p1.getLsbD 3 = !((dir && s.pressed.down) || (act && s.pressed.start)))
      ∧ (∀ a : Word, 0xFF00 ≤ a.toNat → a.toNat ≤ 0xFF7F → a ≠ 0xFF00 → a ≠ 0xFF41 →
          busRead s a = Memory.read s.io (a.toNat - 0xFF00))

/-- R81: the OAM copy. Each of the 160 bytes is what `BusRead` gives at its source, locks and all, at the moment of the write;
nothing but OAM and the register changes. -/
def Obligations.OamCopyEffect : Prop :=
  ∀ (s : State) (v : Byte), MemoriesCanonical s →
    (∃ m, busWrite s 0xFF46 v = { s with io := Memory.write s.io 0x46 v, oam := m })
      ∧ (∀ i, i < 160 → Memory.read (busWrite s 0xFF46 v).oam i =
          busRead { s with io := Memory.write s.io 0x46 v } (joinBytes v 0 + BitVec.ofNat 16 i))

/-- R77, R413, R414: the write of LCDC that turns the display off, the one that turns it on, and the one that leaves bit 7. -/
def Obligations.DisplaySwitch : Prop :=
  ∀ (s : State) (v : Byte),
    let lcdc := Memory.write s.io 0x40 v
    (s.displayOn = true → bitOf v 7 = false → busWrite s 0xFF40 v = { s with
        io := Memory.write lcdc 0x44 0, mode := .hBlank, wlc := 0, entries := s.entries.filter (fun e => e.kind != .ppu) })
      ∧ (s.displayOn = false → bitOf v 7 = true → busWrite s 0xFF40 v =
          schedPush { s with io := Memory.write lcdc 0x44 0, mode := .oamScan, wlc := 0 } (s.now + 80) .ppu)
      ∧ (s.displayOn = bitOf v 7 → busWrite s 0xFF40 v = { s with io := lcdc })

/-! The cartridge. -/

/-- R68, R102, R104, R110, R113 to R115, R118, R119, R122, R123, R126, R127: what 0x0000 to 0x7FFF reads and what a write there
does. Reads: the overlay while it is mapped; under it and above it, NoMBC's image byte, or 0xFF past its end; bank 0 in the lower
window of the other variants; in the upper one the bank in the variant's registers, on MBC1 with the mask of R102. Writes, at
every address of each register's window: the register takes the byte's low bits, where 0 becomes 1 except on MBC5, whose number
has nine bits; a write below 0x2000 (MBC2: with address bit 8 clear) changes the gate alone (`CartRamGate`); an address that
names no register does nothing. -/
def Obligations.BankSelectsWindow : Prop :=
  ∀ (s : State) (a b : Word) (v : Byte), a.toNat ≤ 0x7FFF → b.toNat ≤ 0x7FFF →
    let image (bank base : Nat) : Byte := Memory.read s.cfg.rom ((0x4000 * bank + (a.toNat - base)) % s.cfg.romLength)
    let code : Nat := if 0x148 < s.cfg.romLength then (Memory.read s.cfg.rom 0x148).toNat else 0
    let mask : Nat := 2 * 2 ^ (if code ≤ 8 then code else 8) - 1
    let one (n : Nat) : Nat := if n = 0 then 1 else n
    let leaves (c : Cartridge) : Prop := busWrite s b v = { s with cart := c }
    (s.bootActive = true → a.toNat ≤ 0xFF → busRead s a = Memory.read s.cfg.bootRom a.toNat)
      ∧ (s.bootActive = false ∨ 0x100 ≤ a.toNat → s.cart = .noMbc →
          busRead s a = (if a.toNat < s.cfg.romLength then Memory.read s.cfg.rom a.toNat else 0xFF))
      ∧ (s.bootActive = false ∨ 0x100 ≤ a.toNat → s.cart ≠ .noMbc → a.toNat ≤ 0x3FFF → busRead s a = image 0 0)
      ∧ (0x4000 ≤ a.toNat →
        (∀ r, s.cart = .mbc1 r →
            busRead s a = image (((if r.mode then 0 else 32 * r.bank2.toNat) + r.bank1.toNat) &&& mask) 0x4000)
          ∧ (∀ r, s.cart = .mbc2 r → busRead s a = image r.romBank.toNat 0x4000)
          ∧ (∀ r, s.cart = .mbc3 r → busRead s a = image r.romBank.toNat 0x4000)
          ∧ (∀ r, s.cart = .mbc5 r → busRead s a = image r.romBank.toNat 0x4000))
      ∧ (s.cart = .noMbc → busWrite s b v = s)
      ∧ (∀ r, s.cart = .mbc1 r →
        (b.toNat ≤ 0x1FFF → ∃ gate, leaves (.mbc1 { r with ramEnable := gate }))
          ∧ (0x2000 ≤ b.toNat → b.toNat ≤ 0x3FFF →
            ∃ n, n.toNat = one (v.toNat % 32) ∧ leaves (.mbc1 { r with bank1 := n }))
          ∧ (0x4000 ≤ b.toNat → b.toNat ≤ 0x5FFF → ∃ n, n.toNat = v.toNat % 4 ∧ leaves (.mbc1 { r with bank2 := n }))
          ∧ (0x6000 ≤ b.toNat → leaves (.mbc1 { r with mode := decide (v.toNat % 2 = 1) })))
      ∧ (∀ r, s.cart = .mbc2 r →
        (b.toNat ≤ 0x3FFF → b.toNat / 256 % 2 = 0 → ∃ gate, leaves (.mbc2 { r with ramEnable := gate }))
          ∧ (b.toNat ≤ 0x3FFF → b.toNat / 256 % 2 = 1 →
            ∃ n, n.toNat = one v.toNat ∧ leaves (.mbc2 { r with romBank := n }))
          ∧ (0x4000 ≤ b.toNat → busWrite s b v = s))
      ∧ (∀ r, s.cart = .mbc3 r →
        (b.toNat ≤ 0x1FFF → ∃ gate, leaves (.mbc3 { r with ramEnable := gate }))
          ∧ (0x2000 ≤ b.toNat → b.toNat ≤ 0x3FFF →
            ∃ n, n.toNat = one (v.toNat % 128) ∧ leaves (.mbc3 { r with romBank := n }))
          ∧ (0x4000 ≤ b.toNat → b.toNat ≤ 0x5FFF →
            (v.toNat < 4 → ∃ n, n.toNat = v.toNat ∧ leaves (.mbc3 { r with ramBank := n }))
              ∧ (4 ≤ v.toNat → busWrite s b v = s))
          ∧ (0x6000 ≤ b.toNat → busWrite s b v = s))
      ∧ (∀ r, s.cart = .mbc5 r →
        (b.toNat ≤ 0x1FFF → ∃ gate, leaves (.mbc5 { r with ramEnable := gate }))
          ∧ (0x2000 ≤ b.toNat → b.toNat ≤ 0x2FFF →
            ∃ n, n.toNat = 256 * (r.romBank.toNat / 256) + v.toNat ∧ leaves (.mbc5 { r with romBank := n }))
          ∧ (0x3000 ≤ b.toNat → b.toNat ≤ 0x3FFF →
            ∃ n, n.toNat = 256 * (v.toNat % 2) + r.romBank.toNat % 256 ∧ leaves (.mbc5 { r with romBank := n }))
          ∧ (0x4000 ≤ b.toNat → b.toNat ≤ 0x5FFF → ∃ n, n.toNat = v.toNat % 16 ∧ leaves (.mbc5 { r with ramBank := n }))
          ∧ (0x6000 ≤ b.toNat → busWrite s b v = s))

/-- R105, R106, R110, R113, R116, R118, R120, R122, R124, R126, R128: NoMBC has no gate, so a byte stored in its cartridge RAM
window always reads back. On the other variants any byte written at any address of the gate opens or closes it: on MBC1 it opens
for 0x0A alone, or with MBC1_GATE_FULL_BYTE clear for every byte whose low nibble is 0xA, as it does on MBC2, MBC3 and MBC5. Open,
and after any byte written to the bank register at any address of it, the window reads and stores the byte of the buffer that the
variant's bank arithmetic names (MBC2 reads ones in the high nibble and stores the low one), and a stored byte reads back; closed,
and on MBC1 with RAM size code 0 in any case, it reads 0xFF and a store changes nothing. -/
def Obligations.CartRamGate : Prop :=
  ∀ (s : State) (a g k : Word) (x v w : Byte), MemoriesCanonical s → 0xA000 ≤ a.toNat → a.toNat ≤ 0xBFFF →
    0x4000 ≤ k.toNat → k.toNat ≤ 0x5FFF →
    let gated := busWrite s g x
    let banked := busWrite gated k w
    let back := busRead (busWrite gated a v) a
    let shut : Prop := busRead gated a = 0xFF ∧ busWrite gated a v = gated
    let cell (bank : Nat) : Nat := (0x2000 * bank + (a.toNat - 0xA000)) % s.cfg.cartRamBytes
    let mirrored (size : Nat) : Nat := (a.toNat - 0xA000) % size % s.cfg.cartRamBytes
    let names (i : Nat) : Prop := busRead banked a = Memory.read s.cartRam i
      ∧ busWrite banked a v = { banked with cartRam := Memory.write s.cartRam i v }
    let size : Nat := if 0x149 < s.cfg.romLength then (Memory.read s.cfg.rom 0x149).toNat else 0
    let nibble : Prop := x.toNat % 16 = 0x0A
    (s.cart = .noMbc → g.toNat ≤ 0x7FFF → gated = s ∧ back = v ∧ names (cell 0))
      ∧ (∀ r, s.cart = .mbc1 r → g.toNat ≤ 0x1FFF →
        let opens : Prop := (s.cfg.mbc1GateFullByte = true ∧ x = 0x0A) ∨ (s.cfg.mbc1GateFullByte = false ∧ nibble)
        (opens → size ≠ 0 → back = v ∧ names
            (if size = 1 then mirrored 0x800 else cell (if size ≠ 2 ∧ r.mode = true then w.toNat % 4 else 0)))
          ∧ (¬opens ∨ size = 0 → shut))
      ∧ (∀ r, s.cart = .mbc2 r → g.toNat ≤ 0x3FFF → g.toNat / 256 % 2 = 0 →
        let i := mirrored 0x200
        (nibble → back = v ||| 0xF0 ∧ busRead banked a = Memory.read s.cartRam i ||| 0xF0
            ∧ busWrite banked a v = { banked with cartRam := Memory.write s.cartRam i (v &&& 0x0F) })
          ∧ (¬nibble → shut))
      ∧ (∀ r, s.cart = .mbc3 r → g.toNat ≤ 0x1FFF →
        (nibble → back = v ∧ names (cell (if w.toNat < 4 then w.toNat else r.ramBank.toNat))) ∧ (¬nibble → shut))
      ∧ (∀ r, s.cart = .mbc5 r → g.toNat ≤ 0x1FFF →
        (nibble → back = v ∧ names (cell (w.toNat % 16))) ∧ (¬nibble → shut))

/-! The scheduler. -/

/-- R340, R341, R345, R350: a legal push keeps the list sorted with the sentinel last, puts the event after every one of the
same or an earlier time and before every later one, and changes nothing but the list.
A push that is not legal, into a full list or not before the sentinel's time, latches the model fault and changes nothing else,
and a latched fault stays: that form is the model's (log 8, log 9). -/
def Obligations.PushKeepsOrder : Prop :=
  ∀ (s : State) (t : Nat) (k : EventKind),
    (ScheduleSorted s.entries → s.modelFault = none → k ≠ .panic → t < panicTime → s.entries.length < 32 →
      ScheduleSorted (schedPush s t k).entries
        ∧ ∃ early late, s.entries = early ++ late ∧ schedPush s t k = { s with entries := early ++ ⟨t, k⟩ :: late }
          ∧ (∀ e ∈ early, e.time ≤ t) ∧ (∀ e ∈ late, t < e.time))
      ∧ (s.modelFault = none → panicTime ≤ t → schedPush s t k = { s with modelFault := some .schedulerPanic })
      ∧ (s.modelFault = none → t < panicTime → 32 ≤ s.entries.length →
          schedPush s t k = { s with modelFault := some .schedulerOverflow })
      ∧ (s.modelFault ≠ none → schedPush s t k = s)

/-! The timer. -/

/-- R374, R375: DIV and its sub-counter together count the cycles, modulo 65536. The timer changes its two sub-counters, DIV,
TIMA and IF, and nothing else. -/
def Obligations.DivCounts : Prop :=
  ∀ (s : State) (delta : Nat), Memory.wf ioSize s.io = true → s.divSub < 256 →
    let t := timerAdvance delta s
    (256 * (Memory.read t.io 0x04).toNat + t.divSub =
        (256 * (Memory.read s.io 0x04).toNat + s.divSub + delta) % 65536 ∧ t.divSub < 256)
      ∧ t = { s with io := t.io, divSub := t.divSub, timaSub := t.timaSub }
      ∧ (∀ k, k ≠ 0x04 → k ≠ 0x05 → k ≠ 0x0F → Memory.read t.io k = Memory.read s.io k)

/-- R374, R376, R377: TIMA counts one for every period while TAC[2] is set and stands still otherwise; the count that leaves
0xFF loads TMA and sets IF[2], and counting goes on from TMA. -/
def Obligations.TimaCounts : Prop :=
  ∀ (s : State) (delta : Nat), Memory.wf ioSize s.io = true →
    let t := timerAdvance delta s
    let tac := Memory.read s.io 0x07
    let period := if tac.toNat % 4 = 0 then 1024 else if tac.toNat % 4 = 1 then 16 else if tac.toNat % 4 = 2 then 64 else 256
    let n := (s.timaSub + delta) / period
    let tima := (Memory.read s.io 0x05).toNat
    let tma := (Memory.read s.io 0x06).toNat
    (tac.getLsbD 2 = false → t.timaSub = s.timaSub ∧ Memory.read t.io 0x05 = Memory.read s.io 0x05
        ∧ Memory.read t.io 0x0F = Memory.read s.io 0x0F)
      ∧ (tac.getLsbD 2 = true → t.timaSub = (s.timaSub + delta) % period
        ∧ (tima + n ≤ 255 → (Memory.read t.io 0x05).toNat = tima + n ∧ Memory.read t.io 0x0F = Memory.read s.io 0x0F)
        ∧ (tima + n ≥ 256 → (Memory.read t.io 0x05).toNat = tma + (tima + n - 256) % (256 - tma)
          ∧ Memory.read t.io 0x0F = Memory.read s.io 0x0F ||| 0x04))

/-! The display controller. -/

/-- R402 to R408, R416, R417: a full frame. From the start of scanline 0 at t0 (the display on, its entry at t0 + 80, nothing
else scheduled, the CPU standing still) the k-th event leaves the controller in the mode, on the line and with the deadline
of R416; after the 442 events of one frame it is at scanline 0 again, 70224 cycles later; and the vblank flag, clear at the
start, is set exactly from the event that begins line 144 on. -/
def Obligations.FullFrame : Prop :=
  ∀ (s : State) (t0 : Nat), Memory.wf ioSize s.io = true → s.displayOn = true → s.mode = .oamScan → s.ly = 0 →
    s.modelFault = none → s.entries = [⟨t0 + 80, .ppu⟩, panicSentinel] → t0 + 80000 < panicTime →
    bitOf (Memory.read s.io 0x0F) 0 = false →
    (∀ n, n < 144 →
        (Nat.repeat nextPhase (3 * n) s).phase = some ⟨.oamScan, n, t0 + 456 * n + 80⟩
          ∧ (Nat.repeat nextPhase (3 * n + 1) s).phase = some ⟨.pixelTransfer, n, t0 + 456 * n + 252⟩
          ∧ (Nat.repeat nextPhase (3 * n + 2) s).phase = some ⟨.hBlank, n, t0 + 456 * (n + 1)⟩)
      ∧ (∀ m, m < 10 → (Nat.repeat nextPhase (432 + m) s).phase = some ⟨.vBlank, 144 + m, t0 + 456 * (145 + m)⟩)
      ∧ (Nat.repeat nextPhase 442 s).phase = some ⟨.oamScan, 0, t0 + 70224 + 80⟩
      ∧ (∀ k, k ≤ 442 → bitOf (Memory.read (Nat.repeat nextPhase k s).io 0x0F) 0 = decide (432 ≤ k))

/-- R403 to R412: what one PPU event does to LY and to the flags. LY steps at the end of an HBlank and of a VBlank line, from 153
to 0. IF[0] is set at VBlank entry; IF[1] by the STAT sources HBlank, VBlank, OAM-entry and LY-equals-LYC; the other bits stay,
and no flag is cleared. The event changes no other I/O byte, and beside those the display's own state and the list alone; with
the display off it changes nothing. -/
def Obligations.DisplayInterrupts : Prop :=
  ∀ (s : State) (t : Nat), Memory.wf ioSize s.io = true →
    let u := ppuEvent t s
    let stat := Memory.read s.io 0x41
    let ly := Memory.read s.io 0x44
    let lyc := Memory.read s.io 0x45
    let flags := Memory.read s.io 0x0F
    let after := Memory.read u.io 0x0F
    let newLine : Option Byte := match s.mode with
      | .hBlank => some (ly + 1)
      | .vBlank => some (if ly = 153 then 0 else ly + 1)
      | _ => none
    let entersVBlank := s.mode == .hBlank && ly == 143
    let entersOam := (s.mode == .hBlank && ly != 143) || (s.mode == .vBlank && ly == 153)
    (s.displayOn = false → u = s)
      ∧ (s.displayOn = true →
        Memory.read u.io 0x44 = newLine.getD ly
          ∧ after.getLsbD 0 = (flags.getLsbD 0 || entersVBlank)
          ∧ after.getLsbD 1 = (flags.getLsbD 1 || (s.mode == .pixelTransfer && stat.getLsbD 3)
            || (entersVBlank && stat.getLsbD 4) || (entersOam && stat.getLsbD 5)
            || (decide (newLine = some lyc) && stat.getLsbD 6))
          ∧ (∀ k, 2 ≤ k → k < 8 → after.getLsbD k = flags.getLsbD k)
          ∧ (∀ k, k ≠ 0x0F → k ≠ 0x44 → Memory.read u.io k = Memory.read s.io k)
          ∧ u = { s with
            io := u.io, mode := u.mode, wlc := u.wlc, bgidx := u.bgidx, fb := u.fb, entries := u.entries
            modelFault := u.modelFault })

/-- R404, R419 to R425, R431, R432: rendering writes row LY of the pixel buffer and no other, and counts the window line exactly
when some pixel came from the window; it changes no memory and no register. The raw indices are R431's: 0 with LCDC[0] = 0,
else the window's map where R420's condition holds and the scrolled background's elsewhere, through the tile addressing of R423
and the pixel decode of R424; a pixel is SHADE of the index through BGP, with the sprites of `SpritePriority` over it. What
`bgidx` holds after the call is the model's choice (log 13: R431 gives it no meaning then), and so is that a window row past 255,
which R421 does not reach, has a free tile index (log 29). The end of OAM-scan renders its line
and schedules the next phase 172 cycles later; no other event touches the buffer, and the window line goes back to 0 at the end
of line 153 alone. -/
def Obligations.RenderFrame : Prop :=
  ∀ s : State,
    let reg (k : Nat) : Nat := (Memory.read s.io k).toNat
    let lcdc (k : Nat) : Bool := bitOf (Memory.read s.io 0x40) k
    let vr (a : Nat) : Nat := (Memory.read s.vram (a - 0x8000)).toNat
    let tileAddr (t : Nat) : Nat :=
      if lcdc 4 then 0x8000 + 16 * t else if t < 128 then 0x9000 + 16 * t else 0x9000 - 16 * (256 - t)
    let fetch (map : Bool) (mx my : Nat) : Nat :=
      let tile := if my < 256 then vr ((if map then 0x9C00 else 0x9800) + 32 * (my / 8) + mx / 8)
        else (Config.freeTile s.now mx my).toNat
      let row := tileAddr tile + 2 * (my % 8)
      2 * (vr (row + 1) / 2 ^ (7 - mx % 8) % 2) + vr row / 2 ^ (7 - mx % 8) % 2
    let window (px : Nat) : Bool := lcdc 0 && lcdc 5 && decide (reg 0x44 ≥ reg 0x4A) && decide (px + 7 ≥ reg 0x4B)
    let index (px : Nat) : Nat :=
      if lcdc 0 = false then 0
      else if window px then fetch (lcdc 6) (px + 7 - reg 0x4B) s.wlc
      else fetch (lcdc 3) ((px + reg 0x43) % 256) ((reg 0x44 + reg 0x42) % 256)
    let background (px : Nat) : BitVec 32 := match reg 0x47 / 4 ^ index px % 4 with
      | 0 => s.cfg.shade.shade0
      | 1 => s.cfg.shade.shade1
      | 2 => s.cfg.shade.shade2
      | _ => s.cfg.shade.shade3
    let pixel (px : Nat) : Option (BitVec 32) := (renderScanline s).fb[s.ly.toNat]?.bind (·[px]?)
    (∃ fb indices, renderScanline s = { s with
        fb := fb, bgidx := indices, wlc := s.wlc + (if (List.range 160).any window then 1 else 0) })
      ∧ (∀ n, n ≠ s.ly.toNat → (renderScanline s).fb[n]? = s.fb[n]?)
      ∧ (renderScanline s).bgidx.map BitVec.toNat = (List.range 160).map index
      ∧ (∀ px, (s.bgIndex px).toNat = index px ∧ s.bgColour px = background px)
      ∧ (s.ly.toNat < s.fb.length → ∀ px, px < 160 →
          pixel px = some (s.pixelColour s.drawList px) ∧ (lcdc 1 = false → pixel px = some (background px)))
      ∧ (∀ t, s.displayOn = true → s.mode = .oamScan →
          ppuEvent t s = schedPush (renderScanline { s with mode := .pixelTransfer }) (t + 172) .ppu)
      ∧ (∀ t, s.displayOn = false ∨ s.mode ≠ .oamScan → (ppuEvent t s).fb = s.fb ∧ (ppuEvent t s).wlc =
          if s.displayOn = true ∧ s.mode = .vBlank ∧ s.ly = 153 then 0 else s.wlc)

/-- R426 to R430: the sprites of a line are the first ten entries of OAM, in order, whose height covers the line; what one draws
at a pixel is R430's, its row and column flipped as its attributes say, nothing where the index is 0 or where it stands behind
a background whose raw index (`RenderFrame` gives it) is not 0. At every pixel the one that shows is, among those that draw
there, the one with the smallest X and, at equal X, the earliest in OAM; where none draws, or with LCDC[1] = 0, the background
shows. -/
def Obligations.SpritePriority : Prop :=
  ∀ (s : State) (px : Nat),
    let ly : Int := (Memory.read s.io 0x44).toNat
    let lcdc (k : Nat) : Bool := bitOf (Memory.read s.io 0x40) k
    let vr (a : Nat) : Nat := (Memory.read s.vram (a - 0x8000)).toNat
    let height : Int := if lcdc 2 then 16 else 8
    let entry (i : Nat) : Sprite :=
      ⟨Memory.read s.oam (4 * i), Memory.read s.oam (4 * i + 1), Memory.read s.oam (4 * i + 2), Memory.read s.oam (4 * i + 3)⟩
    let top (o : Sprite) : Int := (o.y.toNat : Int) - 16
    let covers (o : Sprite) : Bool := decide (top o ≤ ly) && decide (ly < top o + height)
    let drawn (o : Sprite) : Option (BitVec 32) :=
      let row := if bitOf o.attr 6 then height - 1 - (ly - top o) else ly - top o
      let tile := if lcdc 2 then o.tile.toNat / 2 * 2 else o.tile.toNat
      let r := 0x8000 + 16 * tile + 2 * row.toNat
      let c := (px : Int) - ((o.x.toNat : Int) - 8)
      let cc := (if bitOf o.attr 5 then 7 - c else c).toNat
      let i := 2 * (vr (r + 1) / 2 ^ (7 - cc) % 2) + vr r / 2 ^ (7 - cc) % 2
      let palette := (Memory.read s.io (if bitOf o.attr 4 then 0x49 else 0x48)).toNat
      if c < 0 ∨ 7 < c ∨ i = 0 ∨ (bitOf o.attr 7 = true ∧ s.bgIndex px ≠ 0) then none
      else match palette / 4 ^ i % 4 with
        | 0 => some s.cfg.shade.shade0
        | 1 => some s.cfg.shade.shade1
        | 2 => some s.cfg.shade.shade2
        | _ => some s.cfg.shade.shade3
    s.selected = (((List.range 40).map entry).filter covers).take 10
      ∧ (∀ o ∈ s.selected, s.drawnAt o px = drawn o)
      ∧ (lcdc 1 = false ∨ (∀ o ∈ s.selected, s.drawnAt o px = none) → s.pixelColour s.drawList px = s.bgColour px)
      ∧ (lcdc 1 = true →
          ∀ (before after : List Sprite) (o : Sprite) (colour : BitVec 32), s.selected = before ++ o :: after →
            s.drawnAt o px = some colour →
            (∀ p ∈ before, s.drawnAt p px = none ∨ o.x.toNat < p.x.toNat) →
            (∀ p ∈ after, s.drawnAt p px = none ∨ o.x.toNat ≤ p.x.toNat) →
            s.pixelColour s.drawList px = colour)

/-! The host. -/

/-- R58, R59, R101, R130, R460 to R462: power-on, Reset and Stop, for every set of parameters; the state after power-on is that
after Reset, with no key input. An empty image and a type byte outside the
table of R101 are refused; otherwise the state after them is R58's table under BootRom, and R59's changes to it under PostBoot.
The zero values and the whole of R59 are the spec's own decision (R58: "the spec's choice, not a statement of the document";
log 11); that `fb` takes R58's SHADE[0] and not D44's zero is the model's choice (log 28); the host's key input is kept (log 4),
and the cost field is 0 (log 5). -/
def Obligations.ResetStates : Prop :=
  ∀ s : State,
    let kind := if 0x147 < s.cfg.romLength then (Memory.read s.cfg.rom 0x147).toNat else 0
    let known := kind ∈ [0x00, 0x01, 0x02, 0x03, 0x05, 0x06, 0x08, 0x09, 0x0F, 0x10, 0x11, 0x12, 0x13, 0x19, 0x1A, 0x1B,
      0x1C, 0x1D, 0x1E]
    hostStop s = hostReset s
      ∧ hostReset { s with keyInput := [] } = powerOn s.cfg
      ∧ (s.cfg.romLength = 0 → hostReset s = .refused .emptyRom)
      ∧ (1 ≤ s.cfg.romLength → ¬known → hostReset s = .refused (.unknownCartridge (BitVec.ofNat 8 kind)))
      ∧ (1 ≤ s.cfg.romLength → known → ∃ boot post : State,
        hostReset { s with cfg := { s.cfg with resetProfile := .bootRom } } = .next boot
          ∧ hostReset { s with cfg := { s.cfg with resetProfile := .postBoot } } = .next post
          ∧ boot.cpu = ⟨0, 0, 0, 0, 0, 0, 0, 0, 0, 0, false, false, none, false, 0⟩
          ∧ (boot.now = 0 ∧ boot.divSub = 0 ∧ boot.timaSub = 0 ∧ boot.bootActive = true ∧ boot.ie = 0 ∧ boot.io = []
            ∧ boot.wram = [] ∧ boot.hram = [] ∧ boot.vram = [] ∧ boot.oam = [] ∧ boot.cartRam = s.cfg.cartRamInit)
          ∧ (boot.mode = .hBlank ∧ boot.wlc = 0 ∧ boot.entries = [panicSentinel] ∧ boot.pressed = noButtons
            ∧ boot.fb = List.replicate 144 (List.replicate 160 s.cfg.shade.shade0)
            ∧ boot.bgidx = List.replicate 160 0 ∧ boot.modelFault = none ∧ boot.keyInput = s.keyInput
            ∧ boot.cfg = { s.cfg with resetProfile := .bootRom })
          ∧ boot.cart = (if kind ≤ 0x00 ∨ kind = 0x08 ∨ kind = 0x09 then .noMbc
            else if kind ≤ 0x03 then .mbc1 ⟨false, 1, 0, false⟩
            else if kind ≤ 0x06 then .mbc2 ⟨false, 1⟩
            else if kind ≤ 0x13 then .mbc3 ⟨false, 1, 0⟩
            else .mbc5 ⟨false, 1, 0⟩)
          ∧ post = { boot with
              a := 0x01, f := 0xB0, b := 0x00, c := 0x13, d := 0x00, e := 0xD8, h := 0x01, l := 0x4D, sp := 0xFFFE
              pc := 0x0100, bootActive := false, divSub := 0xCC, mode := .oamScan
              entries := [⟨80, .ppu⟩, panicSentinel], io := post.io, cfg := { s.cfg with resetProfile := .postBoot } }
          ∧ (∀ k, Memory.read post.io k =
              if k = 0x0F then 0xE1 else if k = 0x04 then 0xAB else if k = 0x07 then 0xF8 else if k = 0x40 then 0x91
              else if k = 0x47 then 0xFC else if k = 0x50 then 0x01 else 0))

/-- R95, R107, R463: a saved state is its six arrays in the order of R95, and loading it restores exactly those, byte for byte,
whatever happened in between; a missing file, the empty stream, changes nothing, nor does Pause; the battery file is the dump of
the cartridge RAM. That the streams are lists of bytes is the model's form (log 26). -/
def Obligations.SavestateRoundTrip : Prop :=
  ∀ s u : State,
    let file := batterySave s
    (∀ k, k < 16800 → (saveState s)[k]? = some (
        if k < 8192 then Memory.read s.wram k
        else if k < 8320 then Memory.read s.io (k - 8192)
        else if k < 8447 then Memory.read s.hram (k - 8320)
        else if k = 8447 then s.ie
        else if k < 16640 then Memory.read s.vram (k - 8448)
        else Memory.read s.oam (k - 16640)))
      ∧ (MemoriesCanonical s →
        (saveState s).length = 16800
          ∧ loadState (saveState s) u =
            { u with wram := s.wram, io := s.io, hram := s.hram, ie := s.ie, vram := s.vram, oam := s.oam })
      ∧ loadState [] u = u ∧ hostPause u = u
      ∧ file.length = s.cfg.cartRamBytes ∧ ∀ k, k < s.cfg.cartRamBytes → file[k]? = some (Memory.read s.cartRam k)

/-- R101, R107, R131, R462: LoadROM refuses an empty image and a type byte outside the table. Any other image is loaded: the
answer is the reset state (that of `Reset()` at these parameters, which `ResetStates` gives) of the old parameters with the new
image and battery file, with the cartridge RAM at the battery file and the variant of the table with its registers at reset.
The host's key input is kept (log 4), and the image and the file are given as bytes (log 26). -/
def Obligations.LoadRomResult : Prop :=
  ∀ (image : List Byte) (saveFile : Memory) (s : State),
    let kind := (image.getD 0x147 0).toNat
    let known := kind ∈ [0x00, 0x01, 0x02, 0x03, 0x05, 0x06, 0x08, 0x09, 0x0F, 0x10, 0x11, 0x12, 0x13, 0x19, 0x1A, 0x1B,
      0x1C, 0x1D, 0x1E]
    (image = [] → hostLoadRom image saveFile s = .refused .emptyRom)
      ∧ (image ≠ [] → ¬known → hostLoadRom image saveFile s = .refused (.unknownCartridge (image.getD 0x147 0)))
      ∧ (image ≠ [] → known → ∃ t, hostLoadRom image saveFile s = .next t ∧ hostReset t = .next t
          ∧ (∃ rom, (∀ k, Memory.read rom k = image.getD k 0)
            ∧ t.cfg = { s.cfg with rom := rom, romLength := image.length, cartRamInit := saveFile })
          ∧ t.cartRam = saveFile ∧ t.keyInput = s.keyInput
          ∧ (kind ∈ [0x00, 0x08, 0x09] → t.cart = .noMbc)
          ∧ (kind ∈ [0x01, 0x02, 0x03] → t.cart = .mbc1 ⟨false, 1, 0, false⟩)
          ∧ (kind ∈ [0x05, 0x06] → t.cart = .mbc2 ⟨false, 1⟩)
          ∧ (kind ∈ [0x0F, 0x10, 0x11, 0x12, 0x13] → t.cart = .mbc3 ⟨false, 1, 0⟩)
          ∧ (kind ∈ [0x19, 0x1A, 0x1B, 0x1C, 0x1D, 0x1E] → t.cart = .mbc5 ⟨false, 1, 0⟩))

/-- R381: the key event of a step: the latch follows it, IF[4] is set on the released to pressed change and only then.
The event is the head of the model's own queue, which leaves it; past its end there is none (log 4). -/
def Obligations.KeyEventEffect : Prop :=
  ∀ (s : State) (k : Button) (rest : List (Option KeyEvent)),
    hostKey { s with keyInput := [] } = { s with keyInput := [] }
      ∧ hostKey { s with keyInput := none :: rest } = { s with keyInput := rest }
      ∧ hostKey { s with keyInput := some ⟨k, false⟩ :: rest } =
          { s with keyInput := rest, pressed := Buttons.set s.pressed k false }
      ∧ hostKey { s with keyInput := some ⟨k, true⟩ :: rest } =
          { s with
            keyInput := rest
            pressed := Buttons.set s.pressed k true
            io := if Buttons.get s.pressed k then s.io else Memory.write s.io 0x0F (Memory.read s.io 0x0F ||| 0x10) }
      ∧ (∀ j v, Buttons.get (Buttons.set s.pressed k v) j = if j = k then v else Buttons.get s.pressed j)

/-! Invariants. -/

/-- The reset states meet the invariant (R22, R54, R55, R340, R348): power-on and Reset complete for every legal set of
parameters, under both profiles, in a state that meets it, and `State.reset` meets it. The state after power-on has the
parameters it was given and is its own reset state, so `ResetStates` gives its values, those of R58 and R59. The reset values are
the spec's own decision (log 11), and the blank images in `State.reset` the model's (log 2). -/
def Obligations.ResetMeetsInvariant : Prop :=
  (∀ cfg : Config, Config.Legal cfg → ∃ t, powerOn cfg = .next t ∧ t.cfg = cfg ∧ hostReset t = .next t ∧ Invariant t)
    ∧ (∀ s : State, Config.Legal s.cfg → ∃ t, hostReset s = .next t ∧ hostReset t = .next t ∧ Invariant t)
    ∧ Invariant State.reset

/-- R22: F[3:0] stays 0 in every step. -/
def Obligations.StepKeepsFlagsClean : Prop :=
  ∀ s t : State, FlagsClean s → step s = .next t → FlagsClean t

/-- R54, R55, R105: every array keeps its canonical form and its bounds in every step. -/
def Obligations.StepKeepsMemories : Prop :=
  ∀ s t : State, MemoriesCanonical s → step s = .next t → MemoriesCanonical t

/-- R340, R348, R401, R402, R417, R434: display and scheduler stay consistent in every step, and the pixel buffer keeps its
shape. The window-line counter is held to one more than the line, so 144 after line 143 (log 19: the model follows R431 there,
not the 143 of R432). -/
def Obligations.StepKeepsDisplayConsistent : Prop :=
  ∀ s t : State, MemoriesCanonical s → DisplayConsistent s → step s = .next t →
    DisplayConsistent t ∧ (FrameShape s → FrameShape t)

/-- The whole invariant is kept by every step, from every state that meets it. -/
def Obligations.StepKeepsInvariant : Prop :=
  ∀ s t : State, Invariant s → step s = .next t → Invariant t
end

