-- ==== Sys2Proof/Laws/Memory.lean ====
section
/-! SUPPORT. The laws of byte arrays: reading after a write, the canonical form, and that canonical arrays with the same
bytes are equal. -/

namespace Sys2Proof.Machine

/-- The array has the canonical form when its offsets rise from `lo` on, stay below `size`, and no byte is the
background. -/
theorem Memory.wfFrom_cons {size lo j : Nat} {v : Byte} {m : Memory} :
    Memory.wfFrom size lo ((j, v) :: m) = true ↔
      lo ≤ j ∧ j < size ∧ v ≠ Memory.background ∧ Memory.wfFrom size (j + 1) m = true := by
  simp only [Memory.wfFrom, Bool.and_eq_true, decide_eq_true_eq]
  exact ⟨fun h => ⟨h.1.1.1, h.1.1.2, h.1.2, h.2⟩, fun h => ⟨⟨⟨h.1, h.2.1⟩, h.2.2.1⟩, h.2.2.2⟩⟩

theorem Memory.wfFrom_weaken {size lo lo' : Nat} {m : Memory} (h : lo' ≤ lo) (w : Memory.wfFrom size lo m = true) :
    Memory.wfFrom size lo' m = true := by
  cases m with
  | nil => rfl
  | cons p m =>
    obtain ⟨j, v⟩ := p
    rw [Memory.wfFrom_cons] at w ⊢
    exact ⟨Nat.le_trans h w.1, w.2⟩

/-- Below its first possible offset an array reads as the background. -/
theorem Memory.read_below {size lo k : Nat} {m : Memory} (w : Memory.wfFrom size lo m = true) (h : k < lo) :
    Memory.read m k = Memory.background := by
  induction m generalizing lo with
  | nil => rfl
  | cons p m ih =>
    obtain ⟨j, v⟩ := p
    rw [Memory.wfFrom_cons] at w
    rw [Memory.read, if_neg (by omega)]
    exact ih w.2.2.2 (by omega)

/-- Beyond its size an array reads as the background. -/
theorem Memory.read_beyond {size lo k : Nat} {m : Memory} (w : Memory.wfFrom size lo m = true) (h : size ≤ k) :
    Memory.read m k = Memory.background := by
  induction m generalizing lo with
  | nil => rfl
  | cons p m ih =>
    obtain ⟨j, v⟩ := p
    rw [Memory.wfFrom_cons] at w
    rw [Memory.read, if_neg (by omega)]
    exact ih w.2.2.2

/-- A read of another offset does not see a write. -/
theorem Memory.read_write_other {m : Memory} {k j : Nat} {v : Byte} (h : j ≠ k) :
    Memory.read (Memory.write m k v) j = Memory.read m j := by
  induction m with
  | nil =>
    unfold Memory.write
    split
    · rfl
    · simp [Memory.read, h]
  | cons p m ih =>
    obtain ⟨i, w⟩ := p
    unfold Memory.write
    split
    · split
      · rfl
      · simp [Memory.read, h]
    · split
      · rename_i h1 h2
        subst h2
        split
        · simp [Memory.read, h]
        · simp [Memory.read, h]
      · simp only [Memory.read, ih]

/-- A read of the written offset gives the byte written. -/
theorem Memory.read_write_same_from {size lo : Nat} {m : Memory} {k : Nat} {v : Byte}
    (w : Memory.wfFrom size lo m = true) : Memory.read (Memory.write m k v) k = v := by
  induction m generalizing lo with
  | nil =>
    unfold Memory.write
    split
    · rename_i h; exact h.symm
    · simp [Memory.read]
  | cons p m ih =>
    obtain ⟨i, u⟩ := p
    rw [Memory.wfFrom_cons] at w
    unfold Memory.write
    split
    · rename_i hk
      split
      · rename_i hv
        rw [Memory.read, if_neg (by omega), hv]
        exact Memory.read_below w.2.2.2 (by omega)
      · simp [Memory.read]
    · split
      · rename_i hk
        subst hk
        split
        · rename_i hv
          rw [hv]
          exact Memory.read_below w.2.2.2 (by omega)
        · simp [Memory.read]
      · rename_i h1 h2
        rw [Memory.read, if_neg h2]
        exact ih w.2.2.2

theorem Memory.read_write_same {size : Nat} {m : Memory} {k : Nat} {v : Byte} (w : Memory.wf size m = true) :
    Memory.read (Memory.write m k v) k = v := Memory.read_write_same_from w

/-- A write inside the array keeps the canonical form. -/
theorem Memory.write_wfFrom {size lo : Nat} {m : Memory} {k : Nat} {v : Byte} (w : Memory.wfFrom size lo m = true)
    (hlo : lo ≤ k) (hk : k < size) : Memory.wfFrom size lo (Memory.write m k v) = true := by
  induction m generalizing lo with
  | nil =>
    unfold Memory.write
    split
    · rfl
    · rename_i hv
      rw [Memory.wfFrom_cons]
      exact ⟨hlo, hk, hv, rfl⟩
  | cons p m ih =>
    obtain ⟨i, u⟩ := p
    have w' := w
    rw [Memory.wfFrom_cons] at w'
    unfold Memory.write
    split
    · rename_i hki
      split
      · exact w
      · rename_i hv
        rw [Memory.wfFrom_cons]
        refine ⟨hlo, hk, hv, ?_⟩
        rw [Memory.wfFrom_cons]
        exact ⟨by omega, w'.2⟩
    · split
      · rename_i hki
        subst hki
        split
        · exact Memory.wfFrom_weaken (by omega) w'.2.2.2
        · rename_i hv
          rw [Memory.wfFrom_cons]
          exact ⟨w'.1, w'.2.1, hv, w'.2.2.2⟩
      · rw [Memory.wfFrom_cons]
        exact ⟨w'.1, w'.2.1, w'.2.2.1, ih w'.2.2.2 (by omega)⟩

theorem Memory.write_wf {size : Nat} {m : Memory} {k : Nat} {v : Byte} (w : Memory.wf size m = true) (hk : k < size) :
    Memory.wf size (Memory.write m k v) = true := Memory.write_wfFrom w (Nat.zero_le k) hk

/-- Canonical arrays with the same bytes are the same data. -/
theorem Memory.ext_from {size lo : Nat} {m n : Memory} (hm : Memory.wfFrom size lo m = true)
    (hn : Memory.wfFrom size lo n = true) (h : ∀ k, Memory.read m k = Memory.read n k) : m = n := by
  induction m generalizing lo n with
  | nil =>
    cases n with
    | nil => rfl
    | cons q n =>
      obtain ⟨j, v⟩ := q
      rw [Memory.wfFrom_cons] at hn
      have := h j
      simp [Memory.read] at this
      exact absurd this.symm hn.2.2.1
  | cons p m ih =>
    obtain ⟨i, u⟩ := p
    rw [Memory.wfFrom_cons] at hm
    cases n with
    | nil =>
      have := h i
      simp [Memory.read] at this
      exact absurd this hm.2.2.1
    | cons q n =>
      obtain ⟨j, v⟩ := q
      rw [Memory.wfFrom_cons] at hn
      have hij : i = j := by
        rcases Nat.lt_trichotomy i j with hlt | heq | hgt
        · have := h i
          rw [Memory.read, if_pos rfl, Memory.read, if_neg (by omega), Memory.read_below hn.2.2.2 (by omega)] at this
          exact absurd this hm.2.2.1
        · exact heq
        · have := h j
          rw [Memory.read, if_neg (by omega), Memory.read_below hm.2.2.2 (by omega), Memory.read, if_pos rfl] at this
          exact absurd this.symm hn.2.2.1
      subst hij
      have huv : u = v := by
        have := h i
        simpa [Memory.read] using this
      subst huv
      congr 1
      refine ih hm.2.2.2 hn.2.2.2 fun k => ?_
      by_cases hk : k = i
      · rw [hk, Memory.read_below hm.2.2.2 (by omega), Memory.read_below hn.2.2.2 (by omega)]
      · have := h k
        simpa [Memory.read, hk] using this

theorem Memory.ext {size : Nat} {m n : Memory} (hm : Memory.wf size m = true) (hn : Memory.wf size n = true)
    (h : ∀ k, k < size → Memory.read m k = Memory.read n k) : m = n := by
  refine Memory.ext_from hm hn fun k => ?_
  by_cases hk : k < size
  · exact h k hk
  · rw [Memory.read_beyond hm (by omega), Memory.read_beyond hn (by omega)]

/-- Writing what is there changes nothing. -/
theorem Memory.write_read {size : Nat} {m : Memory} {k : Nat} (w : Memory.wf size m = true) (hk : k < size) :
    Memory.write m k (Memory.read m k) = m := by
  refine Memory.ext (Memory.write_wf w hk) w fun j _ => ?_
  by_cases hj : j = k
  · rw [hj, Memory.read_write_same w]
  · rw [Memory.read_write_other hj]

/-! Building an array from its bytes. -/

theorem Memory.ofBytesFrom_wf {size : Nat} (bs : List Byte) (k : Nat) (h : k + bs.length ≤ size) :
    Memory.wfFrom size k (Memory.ofBytesFrom k bs) = true := by
  induction bs generalizing k with
  | nil => rfl
  | cons v bs ih =>
    simp only [List.length_cons] at h
    unfold Memory.ofBytesFrom
    split
    · exact Memory.wfFrom_weaken (by omega) (ih (k + 1) (by omega))
    · rename_i hv
      rw [Memory.wfFrom_cons]
      exact ⟨Nat.le_refl k, by omega, hv, ih (k + 1) (by omega)⟩

theorem Memory.ofBytes_wf {size : Nat} (bs : List Byte) (h : bs.length ≤ size) :
    Memory.wf size (Memory.ofBytes bs) = true := Memory.ofBytesFrom_wf bs 0 (by omega)

theorem Memory.read_ofBytesFrom (bs : List Byte) (k j : Nat) (h : k ≤ j) :
    Memory.read (Memory.ofBytesFrom k bs) j = bs.getD (j - k) Memory.background := by
  induction bs generalizing k with
  | nil => simp [Memory.ofBytesFrom, Memory.read]
  | cons v bs ih =>
    unfold Memory.ofBytesFrom
    by_cases hj : j = k
    · subst hj
      split
      · rename_i hv
        have w := Memory.ofBytesFrom_wf (size := j + 1 + bs.length) bs (j + 1) (Nat.le_refl _)
        rw [Memory.read_below w (by omega)]
        simp [hv]
      · simp [Memory.read]
    · have e : j - k = (j - (k + 1)) + 1 := by omega
      have := ih (k + 1) (by omega)
      split
      · rw [this, e, List.getD_cons_succ]
      · rw [Memory.read, if_neg hj, this, e, List.getD_cons_succ]

/-- The byte at an offset of an array built from its bytes. -/
theorem Memory.read_ofBytes (bs : List Byte) (j : Nat) :
    Memory.read (Memory.ofBytes bs) j = bs.getD j Memory.background := Memory.read_ofBytesFrom bs 0 j (Nat.zero_le j)

@[simp] theorem Memory.length_bytes (size : Nat) (m : Memory) : (Memory.bytes size m).length = size := by
  simp [Memory.bytes]

/-- A canonical array is rebuilt from its dump. -/
theorem Memory.ofBytes_bytes {size : Nat} {m : Memory} (w : Memory.wf size m = true) :
    Memory.ofBytes (Memory.bytes size m) = m := by
  refine Memory.ext (Memory.ofBytes_wf _ (by simp)) w fun k hk => ?_
  rw [Memory.read_ofBytes, Memory.bytes, List.getD_eq_getElem?_getD, List.getElem?_map, List.getElem?_range hk]
  rfl

end Sys2Proof.Machine
end

