-- ==== Sys2Proof/Laws/State.lean ====
section
/-! SUPPORT. One lemma for each field and each named update: what the field holds afterwards. `simp` uses them, so no proof
unfolds a record update. -/

namespace Sys2Proof.Machine

@[simp] theorem State.advance_a (s : State) (n k : Nat) : (s.advance n k).a = s.a := rfl
@[simp] theorem State.advance_f (s : State) (n k : Nat) : (s.advance n k).f = s.f := rfl
@[simp] theorem State.advance_b (s : State) (n k : Nat) : (s.advance n k).b = s.b := rfl
@[simp] theorem State.advance_c (s : State) (n k : Nat) : (s.advance n k).c = s.c := rfl
@[simp] theorem State.advance_d (s : State) (n k : Nat) : (s.advance n k).d = s.d := rfl
@[simp] theorem State.advance_e (s : State) (n k : Nat) : (s.advance n k).e = s.e := rfl
@[simp] theorem State.advance_h (s : State) (n k : Nat) : (s.advance n k).h = s.h := rfl
@[simp] theorem State.advance_l (s : State) (n k : Nat) : (s.advance n k).l = s.l := rfl
@[simp] theorem State.advance_sp (s : State) (n k : Nat) : (s.advance n k).sp = s.sp := rfl
@[simp] theorem State.advance_pc (s : State) (n k : Nat) : (s.advance n k).pc = s.pc + BitVec.ofNat 16 n := rfl
@[simp] theorem State.advance_ime (s : State) (n k : Nat) : (s.advance n k).ime = s.ime := rfl
@[simp] theorem State.advance_halted (s : State) (n k : Nat) : (s.advance n k).halted = s.halted := rfl
@[simp] theorem State.advance_fatal (s : State) (n k : Nat) : (s.advance n k).fatal = s.fatal := rfl
@[simp] theorem State.advance_eiPending (s : State) (n k : Nat) : (s.advance n k).eiPending = s.eiPending := rfl
@[simp] theorem State.advance_now (s : State) (n k : Nat) : (s.advance n k).now = s.now := rfl
@[simp] theorem State.advance_cycles (s : State) (n k : Nat) : (s.advance n k).cycles = k := rfl
@[simp] theorem State.advance_divSub (s : State) (n k : Nat) : (s.advance n k).divSub = s.divSub := rfl
@[simp] theorem State.advance_timaSub (s : State) (n k : Nat) : (s.advance n k).timaSub = s.timaSub := rfl
@[simp] theorem State.advance_wram (s : State) (n k : Nat) : (s.advance n k).wram = s.wram := rfl
@[simp] theorem State.advance_hram (s : State) (n k : Nat) : (s.advance n k).hram = s.hram := rfl
@[simp] theorem State.advance_io (s : State) (n k : Nat) : (s.advance n k).io = s.io := rfl
@[simp] theorem State.advance_vram (s : State) (n k : Nat) : (s.advance n k).vram = s.vram := rfl
@[simp] theorem State.advance_oam (s : State) (n k : Nat) : (s.advance n k).oam = s.oam := rfl
@[simp] theorem State.advance_ie (s : State) (n k : Nat) : (s.advance n k).ie = s.ie := rfl
@[simp] theorem State.advance_bootActive (s : State) (n k : Nat) : (s.advance n k).bootActive = s.bootActive := rfl
@[simp] theorem State.advance_cart (s : State) (n k : Nat) : (s.advance n k).cart = s.cart := rfl
@[simp] theorem State.advance_cartRam (s : State) (n k : Nat) : (s.advance n k).cartRam = s.cartRam := rfl
@[simp] theorem State.advance_mode (s : State) (n k : Nat) : (s.advance n k).mode = s.mode := rfl
@[simp] theorem State.advance_wlc (s : State) (n k : Nat) : (s.advance n k).wlc = s.wlc := rfl
@[simp] theorem State.advance_bgidx (s : State) (n k : Nat) : (s.advance n k).bgidx = s.bgidx := rfl
@[simp] theorem State.advance_fb (s : State) (n k : Nat) : (s.advance n k).fb = s.fb := rfl
@[simp] theorem State.advance_entries (s : State) (n k : Nat) : (s.advance n k).entries = s.entries := rfl
@[simp] theorem State.advance_modelFault (s : State) (n k : Nat) : (s.advance n k).modelFault = s.modelFault := rfl
@[simp] theorem State.advance_pressed (s : State) (n k : Nat) : (s.advance n k).pressed = s.pressed := rfl
@[simp] theorem State.advance_keyInput (s : State) (n k : Nat) : (s.advance n k).keyInput = s.keyInput := rfl
@[simp] theorem State.advance_cfg (s : State) (n k : Nat) : (s.advance n k).cfg = s.cfg := rfl

@[simp] theorem State.jump_a (s : State) (w : Word) : (s.jump w).a = s.a := rfl
@[simp] theorem State.jump_f (s : State) (w : Word) : (s.jump w).f = s.f := rfl
@[simp] theorem State.jump_b (s : State) (w : Word) : (s.jump w).b = s.b := rfl
@[simp] theorem State.jump_c (s : State) (w : Word) : (s.jump w).c = s.c := rfl
@[simp] theorem State.jump_d (s : State) (w : Word) : (s.jump w).d = s.d := rfl
@[simp] theorem State.jump_e (s : State) (w : Word) : (s.jump w).e = s.e := rfl
@[simp] theorem State.jump_h (s : State) (w : Word) : (s.jump w).h = s.h := rfl
@[simp] theorem State.jump_l (s : State) (w : Word) : (s.jump w).l = s.l := rfl
@[simp] theorem State.jump_sp (s : State) (w : Word) : (s.jump w).sp = s.sp := rfl
@[simp] theorem State.jump_pc (s : State) (w : Word) : (s.jump w).pc = w := rfl
@[simp] theorem State.jump_ime (s : State) (w : Word) : (s.jump w).ime = s.ime := rfl
@[simp] theorem State.jump_halted (s : State) (w : Word) : (s.jump w).halted = s.halted := rfl
@[simp] theorem State.jump_fatal (s : State) (w : Word) : (s.jump w).fatal = s.fatal := rfl
@[simp] theorem State.jump_eiPending (s : State) (w : Word) : (s.jump w).eiPending = s.eiPending := rfl
@[simp] theorem State.jump_now (s : State) (w : Word) : (s.jump w).now = s.now := rfl
@[simp] theorem State.jump_cycles (s : State) (w : Word) : (s.jump w).cycles = s.cycles := rfl
@[simp] theorem State.jump_divSub (s : State) (w : Word) : (s.jump w).divSub = s.divSub := rfl
@[simp] theorem State.jump_timaSub (s : State) (w : Word) : (s.jump w).timaSub = s.timaSub := rfl
@[simp] theorem State.jump_wram (s : State) (w : Word) : (s.jump w).wram = s.wram := rfl
@[simp] theorem State.jump_hram (s : State) (w : Word) : (s.jump w).hram = s.hram := rfl
@[simp] theorem State.jump_io (s : State) (w : Word) : (s.jump w).io = s.io := rfl
@[simp] theorem State.jump_vram (s : State) (w : Word) : (s.jump w).vram = s.vram := rfl
@[simp] theorem State.jump_oam (s : State) (w : Word) : (s.jump w).oam = s.oam := rfl
@[simp] theorem State.jump_ie (s : State) (w : Word) : (s.jump w).ie = s.ie := rfl
@[simp] theorem State.jump_bootActive (s : State) (w : Word) : (s.jump w).bootActive = s.bootActive := rfl
@[simp] theorem State.jump_cart (s : State) (w : Word) : (s.jump w).cart = s.cart := rfl
@[simp] theorem State.jump_cartRam (s : State) (w : Word) : (s.jump w).cartRam = s.cartRam := rfl
@[simp] theorem State.jump_mode (s : State) (w : Word) : (s.jump w).mode = s.mode := rfl
@[simp] theorem State.jump_wlc (s : State) (w : Word) : (s.jump w).wlc = s.wlc := rfl
@[simp] theorem State.jump_bgidx (s : State) (w : Word) : (s.jump w).bgidx = s.bgidx := rfl
@[simp] theorem State.jump_fb (s : State) (w : Word) : (s.jump w).fb = s.fb := rfl
@[simp] theorem State.jump_entries (s : State) (w : Word) : (s.jump w).entries = s.entries := rfl
@[simp] theorem State.jump_modelFault (s : State) (w : Word) : (s.jump w).modelFault = s.modelFault := rfl
@[simp] theorem State.jump_pressed (s : State) (w : Word) : (s.jump w).pressed = s.pressed := rfl
@[simp] theorem State.jump_keyInput (s : State) (w : Word) : (s.jump w).keyInput = s.keyInput := rfl
@[simp] theorem State.jump_cfg (s : State) (w : Word) : (s.jump w).cfg = s.cfg := rfl

@[simp] theorem State.charge_a (s : State) (k : Nat) : (s.charge k).a = s.a := rfl
@[simp] theorem State.charge_f (s : State) (k : Nat) : (s.charge k).f = s.f := rfl
@[simp] theorem State.charge_b (s : State) (k : Nat) : (s.charge k).b = s.b := rfl
@[simp] theorem State.charge_c (s : State) (k : Nat) : (s.charge k).c = s.c := rfl
@[simp] theorem State.charge_d (s : State) (k : Nat) : (s.charge k).d = s.d := rfl
@[simp] theorem State.charge_e (s : State) (k : Nat) : (s.charge k).e = s.e := rfl
@[simp] theorem State.charge_h (s : State) (k : Nat) : (s.charge k).h = s.h := rfl
@[simp] theorem State.charge_l (s : State) (k : Nat) : (s.charge k).l = s.l := rfl
@[simp] theorem State.charge_sp (s : State) (k : Nat) : (s.charge k).sp = s.sp := rfl
@[simp] theorem State.charge_pc (s : State) (k : Nat) : (s.charge k).pc = s.pc := rfl
@[simp] theorem State.charge_ime (s : State) (k : Nat) : (s.charge k).ime = s.ime := rfl
@[simp] theorem State.charge_halted (s : State) (k : Nat) : (s.charge k).halted = s.halted := rfl
@[simp] theorem State.charge_fatal (s : State) (k : Nat) : (s.charge k).fatal = s.fatal := rfl
@[simp] theorem State.charge_eiPending (s : State) (k : Nat) : (s.charge k).eiPending = s.eiPending := rfl
@[simp] theorem State.charge_now (s : State) (k : Nat) : (s.charge k).now = s.now := rfl
@[simp] theorem State.charge_cycles (s : State) (k : Nat) : (s.charge k).cycles = k := rfl
@[simp] theorem State.charge_divSub (s : State) (k : Nat) : (s.charge k).divSub = s.divSub := rfl
@[simp] theorem State.charge_timaSub (s : State) (k : Nat) : (s.charge k).timaSub = s.timaSub := rfl
@[simp] theorem State.charge_wram (s : State) (k : Nat) : (s.charge k).wram = s.wram := rfl
@[simp] theorem State.charge_hram (s : State) (k : Nat) : (s.charge k).hram = s.hram := rfl
@[simp] theorem State.charge_io (s : State) (k : Nat) : (s.charge k).io = s.io := rfl
@[simp] theorem State.charge_vram (s : State) (k : Nat) : (s.charge k).vram = s.vram := rfl
@[simp] theorem State.charge_oam (s : State) (k : Nat) : (s.charge k).oam = s.oam := rfl
@[simp] theorem State.charge_ie (s : State) (k : Nat) : (s.charge k).ie = s.ie := rfl
@[simp] theorem State.charge_bootActive (s : State) (k : Nat) : (s.charge k).bootActive = s.bootActive := rfl
@[simp] theorem State.charge_cart (s : State) (k : Nat) : (s.charge k).cart = s.cart := rfl
@[simp] theorem State.charge_cartRam (s : State) (k : Nat) : (s.charge k).cartRam = s.cartRam := rfl
@[simp] theorem State.charge_mode (s : State) (k : Nat) : (s.charge k).mode = s.mode := rfl
@[simp] theorem State.charge_wlc (s : State) (k : Nat) : (s.charge k).wlc = s.wlc := rfl
@[simp] theorem State.charge_bgidx (s : State) (k : Nat) : (s.charge k).bgidx = s.bgidx := rfl
@[simp] theorem State.charge_fb (s : State) (k : Nat) : (s.charge k).fb = s.fb := rfl
@[simp] theorem State.charge_entries (s : State) (k : Nat) : (s.charge k).entries = s.entries := rfl
@[simp] theorem State.charge_modelFault (s : State) (k : Nat) : (s.charge k).modelFault = s.modelFault := rfl
@[simp] theorem State.charge_pressed (s : State) (k : Nat) : (s.charge k).pressed = s.pressed := rfl
@[simp] theorem State.charge_keyInput (s : State) (k : Nat) : (s.charge k).keyInput = s.keyInput := rfl
@[simp] theorem State.charge_cfg (s : State) (k : Nat) : (s.charge k).cfg = s.cfg := rfl

@[simp] theorem State.setF_a (s : State) (v : Byte) : (s.setF v).a = s.a := rfl
@[simp] theorem State.setF_f (s : State) (v : Byte) : (s.setF v).f = v &&& 0xF0 := rfl
@[simp] theorem State.setF_b (s : State) (v : Byte) : (s.setF v).b = s.b := rfl
@[simp] theorem State.setF_c (s : State) (v : Byte) : (s.setF v).c = s.c := rfl
@[simp] theorem State.setF_d (s : State) (v : Byte) : (s.setF v).d = s.d := rfl
@[simp] theorem State.setF_e (s : State) (v : Byte) : (s.setF v).e = s.e := rfl
@[simp] theorem State.setF_h (s : State) (v : Byte) : (s.setF v).h = s.h := rfl
@[simp] theorem State.setF_l (s : State) (v : Byte) : (s.setF v).l = s.l := rfl
@[simp] theorem State.setF_sp (s : State) (v : Byte) : (s.setF v).sp = s.sp := rfl
@[simp] theorem State.setF_pc (s : State) (v : Byte) : (s.setF v).pc = s.pc := rfl
@[simp] theorem State.setF_ime (s : State) (v : Byte) : (s.setF v).ime = s.ime := rfl
@[simp] theorem State.setF_halted (s : State) (v : Byte) : (s.setF v).halted = s.halted := rfl
@[simp] theorem State.setF_fatal (s : State) (v : Byte) : (s.setF v).fatal = s.fatal := rfl
@[simp] theorem State.setF_eiPending (s : State) (v : Byte) : (s.setF v).eiPending = s.eiPending := rfl
@[simp] theorem State.setF_now (s : State) (v : Byte) : (s.setF v).now = s.now := rfl
@[simp] theorem State.setF_cycles (s : State) (v : Byte) : (s.setF v).cycles = s.cycles := rfl
@[simp] theorem State.setF_divSub (s : State) (v : Byte) : (s.setF v).divSub = s.divSub := rfl
@[simp] theorem State.setF_timaSub (s : State) (v : Byte) : (s.setF v).timaSub = s.timaSub := rfl
@[simp] theorem State.setF_wram (s : State) (v : Byte) : (s.setF v).wram = s.wram := rfl
@[simp] theorem State.setF_hram (s : State) (v : Byte) : (s.setF v).hram = s.hram := rfl
@[simp] theorem State.setF_io (s : State) (v : Byte) : (s.setF v).io = s.io := rfl
@[simp] theorem State.setF_vram (s : State) (v : Byte) : (s.setF v).vram = s.vram := rfl
@[simp] theorem State.setF_oam (s : State) (v : Byte) : (s.setF v).oam = s.oam := rfl
@[simp] theorem State.setF_ie (s : State) (v : Byte) : (s.setF v).ie = s.ie := rfl
@[simp] theorem State.setF_bootActive (s : State) (v : Byte) : (s.setF v).bootActive = s.bootActive := rfl
@[simp] theorem State.setF_cart (s : State) (v : Byte) : (s.setF v).cart = s.cart := rfl
@[simp] theorem State.setF_cartRam (s : State) (v : Byte) : (s.setF v).cartRam = s.cartRam := rfl
@[simp] theorem State.setF_mode (s : State) (v : Byte) : (s.setF v).mode = s.mode := rfl
@[simp] theorem State.setF_wlc (s : State) (v : Byte) : (s.setF v).wlc = s.wlc := rfl
@[simp] theorem State.setF_bgidx (s : State) (v : Byte) : (s.setF v).bgidx = s.bgidx := rfl
@[simp] theorem State.setF_fb (s : State) (v : Byte) : (s.setF v).fb = s.fb := rfl
@[simp] theorem State.setF_entries (s : State) (v : Byte) : (s.setF v).entries = s.entries := rfl
@[simp] theorem State.setF_modelFault (s : State) (v : Byte) : (s.setF v).modelFault = s.modelFault := rfl
@[simp] theorem State.setF_pressed (s : State) (v : Byte) : (s.setF v).pressed = s.pressed := rfl
@[simp] theorem State.setF_keyInput (s : State) (v : Byte) : (s.setF v).keyInput = s.keyInput := rfl
@[simp] theorem State.setF_cfg (s : State) (v : Byte) : (s.setF v).cfg = s.cfg := rfl

@[simp] theorem State.setFlags_a (s : State) (z n h c : Bool) : (s.setFlags z n h c).a = s.a := rfl
@[simp] theorem State.setFlags_f (s : State) (z n h c : Bool) : (s.setFlags z n h c).f = flagsByte z n h c := rfl
@[simp] theorem State.setFlags_b (s : State) (z n h c : Bool) : (s.setFlags z n h c).b = s.b := rfl
@[simp] theorem State.setFlags_c (s : State) (z n h c : Bool) : (s.setFlags z n h c).c = s.c := rfl
@[simp] theorem State.setFlags_d (s : State) (z n h c : Bool) : (s.setFlags z n h c).d = s.d := rfl
@[simp] theorem State.setFlags_e (s : State) (z n h c : Bool) : (s.setFlags z n h c).e = s.e := rfl
@[simp] theorem State.setFlags_h (s : State) (z n h c : Bool) : (s.setFlags z n h c).h = s.h := rfl
@[simp] theorem State.setFlags_l (s : State) (z n h c : Bool) : (s.setFlags z n h c).l = s.l := rfl
@[simp] theorem State.setFlags_sp (s : State) (z n h c : Bool) : (s.setFlags z n h c).sp = s.sp := rfl
@[simp] theorem State.setFlags_pc (s : State) (z n h c : Bool) : (s.setFlags z n h c).pc = s.pc := rfl
@[simp] theorem State.setFlags_ime (s : State) (z n h c : Bool) : (s.setFlags z n h c).ime = s.ime := rfl
@[simp] theorem State.setFlags_halted (s : State) (z n h c : Bool) : (s.setFlags z n h c).halted = s.halted := rfl
@[simp] theorem State.setFlags_fatal (s : State) (z n h c : Bool) : (s.setFlags z n h c).fatal = s.fatal := rfl
@[simp] theorem State.setFlags_eiPending (s : State) (z n h c : Bool) : (s.setFlags z n h c).eiPending = s.eiPending := rfl
@[simp] theorem State.setFlags_now (s : State) (z n h c : Bool) : (s.setFlags z n h c).now = s.now := rfl
@[simp] theorem State.setFlags_cycles (s : State) (z n h c : Bool) : (s.setFlags z n h c).cycles = s.cycles := rfl
@[simp] theorem State.setFlags_divSub (s : State) (z n h c : Bool) : (s.setFlags z n h c).divSub = s.divSub := rfl
@[simp] theorem State.setFlags_timaSub (s : State) (z n h c : Bool) : (s.setFlags z n h c).timaSub = s.timaSub := rfl
@[simp] theorem State.setFlags_wram (s : State) (z n h c : Bool) : (s.setFlags z n h c).wram = s.wram := rfl
@[simp] theorem State.setFlags_hram (s : State) (z n h c : Bool) : (s.setFlags z n h c).hram = s.hram := rfl
@[simp] theorem State.setFlags_io (s : State) (z n h c : Bool) : (s.setFlags z n h c).io = s.io := rfl
@[simp] theorem State.setFlags_vram (s : State) (z n h c : Bool) : (s.setFlags z n h c).vram = s.vram := rfl
@[simp] theorem State.setFlags_oam (s : State) (z n h c : Bool) : (s.setFlags z n h c).oam = s.oam := rfl
@[simp] theorem State.setFlags_ie (s : State) (z n h c : Bool) : (s.setFlags z n h c).ie = s.ie := rfl
@[simp] theorem State.setFlags_bootActive (s : State) (z n h c : Bool) : (s.setFlags z n h c).bootActive = s.bootActive := rfl
@[simp] theorem State.setFlags_cart (s : State) (z n h c : Bool) : (s.setFlags z n h c).cart = s.cart := rfl
@[simp] theorem State.setFlags_cartRam (s : State) (z n h c : Bool) : (s.setFlags z n h c).cartRam = s.cartRam := rfl
@[simp] theorem State.setFlags_mode (s : State) (z n h c : Bool) : (s.setFlags z n h c).mode = s.mode := rfl
@[simp] theorem State.setFlags_wlc (s : State) (z n h c : Bool) : (s.setFlags z n h c).wlc = s.wlc := rfl
@[simp] theorem State.setFlags_bgidx (s : State) (z n h c : Bool) : (s.setFlags z n h c).bgidx = s.bgidx := rfl
@[simp] theorem State.setFlags_fb (s : State) (z n h c : Bool) : (s.setFlags z n h c).fb = s.fb := rfl
@[simp] theorem State.setFlags_entries (s : State) (z n h c : Bool) : (s.setFlags z n h c).entries = s.entries := rfl
@[simp] theorem State.setFlags_modelFault (s : State) (z n h c : Bool) : (s.setFlags z n h c).modelFault = s.modelFault := rfl
@[simp] theorem State.setFlags_pressed (s : State) (z n h c : Bool) : (s.setFlags z n h c).pressed = s.pressed := rfl
@[simp] theorem State.setFlags_keyInput (s : State) (z n h c : Bool) : (s.setFlags z n h c).keyInput = s.keyInput := rfl
@[simp] theorem State.setFlags_cfg (s : State) (z n h c : Bool) : (s.setFlags z n h c).cfg = s.cfg := rfl

@[simp] theorem State.setBC_a (s : State) (w : Word) : (s.setBC w).a = s.a := rfl
@[simp] theorem State.setBC_f (s : State) (w : Word) : (s.setBC w).f = s.f := rfl
@[simp] theorem State.setBC_b (s : State) (w : Word) : (s.setBC w).b = highByte w := rfl
@[simp] theorem State.setBC_c (s : State) (w : Word) : (s.setBC w).c = lowByte w := rfl
@[simp] theorem State.setBC_d (s : State) (w : Word) : (s.setBC w).d = s.d := rfl
@[simp] theorem State.setBC_e (s : State) (w : Word) : (s.setBC w).e = s.e := rfl
@[simp] theorem State.setBC_h (s : State) (w : Word) : (s.setBC w).h = s.h := rfl
@[simp] theorem State.setBC_l (s : State) (w : Word) : (s.setBC w).l = s.l := rfl
@[simp] theorem State.setBC_sp (s : State) (w : Word) : (s.setBC w).sp = s.sp := rfl
@[simp] theorem State.setBC_pc (s : State) (w : Word) : (s.setBC w).pc = s.pc := rfl
@[simp] theorem State.setBC_ime (s : State) (w : Word) : (s.setBC w).ime = s.ime := rfl
@[simp] theorem State.setBC_halted (s : State) (w : Word) : (s.setBC w).halted = s.halted := rfl
@[simp] theorem State.setBC_fatal (s : State) (w : Word) : (s.setBC w).fatal = s.fatal := rfl
@[simp] theorem State.setBC_eiPending (s : State) (w : Word) : (s.setBC w).eiPending = s.eiPending := rfl
@[simp] theorem State.setBC_now (s : State) (w : Word) : (s.setBC w).now = s.now := rfl
@[simp] theorem State.setBC_cycles (s : State) (w : Word) : (s.setBC w).cycles = s.cycles := rfl
@[simp] theorem State.setBC_divSub (s : State) (w : Word) : (s.setBC w).divSub = s.divSub := rfl
@[simp] theorem State.setBC_timaSub (s : State) (w : Word) : (s.setBC w).timaSub = s.timaSub := rfl
@[simp] theorem State.setBC_wram (s : State) (w : Word) : (s.setBC w).wram = s.wram := rfl
@[simp] theorem State.setBC_hram (s : State) (w : Word) : (s.setBC w).hram = s.hram := rfl
@[simp] theorem State.setBC_io (s : State) (w : Word) : (s.setBC w).io = s.io := rfl
@[simp] theorem State.setBC_vram (s : State) (w : Word) : (s.setBC w).vram = s.vram := rfl
@[simp] theorem State.setBC_oam (s : State) (w : Word) : (s.setBC w).oam = s.oam := rfl
@[simp] theorem State.setBC_ie (s : State) (w : Word) : (s.setBC w).ie = s.ie := rfl
@[simp] theorem State.setBC_bootActive (s : State) (w : Word) : (s.setBC w).bootActive = s.bootActive := rfl
@[simp] theorem State.setBC_cart (s : State) (w : Word) : (s.setBC w).cart = s.cart := rfl
@[simp] theorem State.setBC_cartRam (s : State) (w : Word) : (s.setBC w).cartRam = s.cartRam := rfl
@[simp] theorem State.setBC_mode (s : State) (w : Word) : (s.setBC w).mode = s.mode := rfl
@[simp] theorem State.setBC_wlc (s : State) (w : Word) : (s.setBC w).wlc = s.wlc := rfl
@[simp] theorem State.setBC_bgidx (s : State) (w : Word) : (s.setBC w).bgidx = s.bgidx := rfl
@[simp] theorem State.setBC_fb (s : State) (w : Word) : (s.setBC w).fb = s.fb := rfl
@[simp] theorem State.setBC_entries (s : State) (w : Word) : (s.setBC w).entries = s.entries := rfl
@[simp] theorem State.setBC_modelFault (s : State) (w : Word) : (s.setBC w).modelFault = s.modelFault := rfl
@[simp] theorem State.setBC_pressed (s : State) (w : Word) : (s.setBC w).pressed = s.pressed := rfl
@[simp] theorem State.setBC_keyInput (s : State) (w : Word) : (s.setBC w).keyInput = s.keyInput := rfl
@[simp] theorem State.setBC_cfg (s : State) (w : Word) : (s.setBC w).cfg = s.cfg := rfl

@[simp] theorem State.setDE_a (s : State) (w : Word) : (s.setDE w).a = s.a := rfl
@[simp] theorem State.setDE_f (s : State) (w : Word) : (s.setDE w).f = s.f := rfl
@[simp] theorem State.setDE_b (s : State) (w : Word) : (s.setDE w).b = s.b := rfl
@[simp] theorem State.setDE_c (s : State) (w : Word) : (s.setDE w).c = s.c := rfl
@[simp] theorem State.setDE_d (s : State) (w : Word) : (s.setDE w).d = highByte w := rfl
@[simp] theorem State.setDE_e (s : State) (w : Word) : (s.setDE w).e = lowByte w := rfl
@[simp] theorem State.setDE_h (s : State) (w : Word) : (s.setDE w).h = s.h := rfl
@[simp] theorem State.setDE_l (s : State) (w : Word) : (s.setDE w).l = s.l := rfl
@[simp] theorem State.setDE_sp (s : State) (w : Word) : (s.setDE w).sp = s.sp := rfl
@[simp] theorem State.setDE_pc (s : State) (w : Word) : (s.setDE w).pc = s.pc := rfl
@[simp] theorem State.setDE_ime (s : State) (w : Word) : (s.setDE w).ime = s.ime := rfl
@[simp] theorem State.setDE_halted (s : State) (w : Word) : (s.setDE w).halted = s.halted := rfl
@[simp] theorem State.setDE_fatal (s : State) (w : Word) : (s.setDE w).fatal = s.fatal := rfl
@[simp] theorem State.setDE_eiPending (s : State) (w : Word) : (s.setDE w).eiPending = s.eiPending := rfl
@[simp] theorem State.setDE_now (s : State) (w : Word) : (s.setDE w).now = s.now := rfl
@[simp] theorem State.setDE_cycles (s : State) (w : Word) : (s.setDE w).cycles = s.cycles := rfl
@[simp] theorem State.setDE_divSub (s : State) (w : Word) : (s.setDE w).divSub = s.divSub := rfl
@[simp] theorem State.setDE_timaSub (s : State) (w : Word) : (s.setDE w).timaSub = s.timaSub := rfl
@[simp] theorem State.setDE_wram (s : State) (w : Word) : (s.setDE w).wram = s.wram := rfl
@[simp] theorem State.setDE_hram (s : State) (w : Word) : (s.setDE w).hram = s.hram := rfl
@[simp] theorem State.setDE_io (s : State) (w : Word) : (s.setDE w).io = s.io := rfl
@[simp] theorem State.setDE_vram (s : State) (w : Word) : (s.setDE w).vram = s.vram := rfl
@[simp] theorem State.setDE_oam (s : State) (w : Word) : (s.setDE w).oam = s.oam := rfl
@[simp] theorem State.setDE_ie (s : State) (w : Word) : (s.setDE w).ie = s.ie := rfl
@[simp] theorem State.setDE_bootActive (s : State) (w : Word) : (s.setDE w).bootActive = s.bootActive := rfl
@[simp] theorem State.setDE_cart (s : State) (w : Word) : (s.setDE w).cart = s.cart := rfl
@[simp] theorem State.setDE_cartRam (s : State) (w : Word) : (s.setDE w).cartRam = s.cartRam := rfl
@[simp] theorem State.setDE_mode (s : State) (w : Word) : (s.setDE w).mode = s.mode := rfl
@[simp] theorem State.setDE_wlc (s : State) (w : Word) : (s.setDE w).wlc = s.wlc := rfl
@[simp] theorem State.setDE_bgidx (s : State) (w : Word) : (s.setDE w).bgidx = s.bgidx := rfl
@[simp] theorem State.setDE_fb (s : State) (w : Word) : (s.setDE w).fb = s.fb := rfl
@[simp] theorem State.setDE_entries (s : State) (w : Word) : (s.setDE w).entries = s.entries := rfl
@[simp] theorem State.setDE_modelFault (s : State) (w : Word) : (s.setDE w).modelFault = s.modelFault := rfl
@[simp] theorem State.setDE_pressed (s : State) (w : Word) : (s.setDE w).pressed = s.pressed := rfl
@[simp] theorem State.setDE_keyInput (s : State) (w : Word) : (s.setDE w).keyInput = s.keyInput := rfl
@[simp] theorem State.setDE_cfg (s : State) (w : Word) : (s.setDE w).cfg = s.cfg := rfl

@[simp] theorem State.setHL_a (s : State) (w : Word) : (s.setHL w).a = s.a := rfl
@[simp] theorem State.setHL_f (s : State) (w : Word) : (s.setHL w).f = s.f := rfl
@[simp] theorem State.setHL_b (s : State) (w : Word) : (s.setHL w).b = s.b := rfl
@[simp] theorem State.setHL_c (s : State) (w : Word) : (s.setHL w).c = s.c := rfl
@[simp] theorem State.setHL_d (s : State) (w : Word) : (s.setHL w).d = s.d := rfl
@[simp] theorem State.setHL_e (s : State) (w : Word) : (s.setHL w).e = s.e := rfl
@[simp] theorem State.setHL_h (s : State) (w : Word) : (s.setHL w).h = highByte w := rfl
@[simp] theorem State.setHL_l (s : State) (w : Word) : (s.setHL w).l = lowByte w := rfl
@[simp] theorem State.setHL_sp (s : State) (w : Word) : (s.setHL w).sp = s.sp := rfl
@[simp] theorem State.setHL_pc (s : State) (w : Word) : (s.setHL w).pc = s.pc := rfl
@[simp] theorem State.setHL_ime (s : State) (w : Word) : (s.setHL w).ime = s.ime := rfl
@[simp] theorem State.setHL_halted (s : State) (w : Word) : (s.setHL w).halted = s.halted := rfl
@[simp] theorem State.setHL_fatal (s : State) (w : Word) : (s.setHL w).fatal = s.fatal := rfl
@[simp] theorem State.setHL_eiPending (s : State) (w : Word) : (s.setHL w).eiPending = s.eiPending := rfl
@[simp] theorem State.setHL_now (s : State) (w : Word) : (s.setHL w).now = s.now := rfl
@[simp] theorem State.setHL_cycles (s : State) (w : Word) : (s.setHL w).cycles = s.cycles := rfl
@[simp] theorem State.setHL_divSub (s : State) (w : Word) : (s.setHL w).divSub = s.divSub := rfl
@[simp] theorem State.setHL_timaSub (s : State) (w : Word) : (s.setHL w).timaSub = s.timaSub := rfl
@[simp] theorem State.setHL_wram (s : State) (w : Word) : (s.setHL w).wram = s.wram := rfl
@[simp] theorem State.setHL_hram (s : State) (w : Word) : (s.setHL w).hram = s.hram := rfl
@[simp] theorem State.setHL_io (s : State) (w : Word) : (s.setHL w).io = s.io := rfl
@[simp] theorem State.setHL_vram (s : State) (w : Word) : (s.setHL w).vram = s.vram := rfl
@[simp] theorem State.setHL_oam (s : State) (w : Word) : (s.setHL w).oam = s.oam := rfl
@[simp] theorem State.setHL_ie (s : State) (w : Word) : (s.setHL w).ie = s.ie := rfl
@[simp] theorem State.setHL_bootActive (s : State) (w : Word) : (s.setHL w).bootActive = s.bootActive := rfl
@[simp] theorem State.setHL_cart (s : State) (w : Word) : (s.setHL w).cart = s.cart := rfl
@[simp] theorem State.setHL_cartRam (s : State) (w : Word) : (s.setHL w).cartRam = s.cartRam := rfl
@[simp] theorem State.setHL_mode (s : State) (w : Word) : (s.setHL w).mode = s.mode := rfl
@[simp] theorem State.setHL_wlc (s : State) (w : Word) : (s.setHL w).wlc = s.wlc := rfl
@[simp] theorem State.setHL_bgidx (s : State) (w : Word) : (s.setHL w).bgidx = s.bgidx := rfl
@[simp] theorem State.setHL_fb (s : State) (w : Word) : (s.setHL w).fb = s.fb := rfl
@[simp] theorem State.setHL_entries (s : State) (w : Word) : (s.setHL w).entries = s.entries := rfl
@[simp] theorem State.setHL_modelFault (s : State) (w : Word) : (s.setHL w).modelFault = s.modelFault := rfl
@[simp] theorem State.setHL_pressed (s : State) (w : Word) : (s.setHL w).pressed = s.pressed := rfl
@[simp] theorem State.setHL_keyInput (s : State) (w : Word) : (s.setHL w).keyInput = s.keyInput := rfl
@[simp] theorem State.setHL_cfg (s : State) (w : Word) : (s.setHL w).cfg = s.cfg := rfl

@[simp] theorem State.setAF_a (s : State) (w : Word) : (s.setAF w).a = highByte w := rfl
@[simp] theorem State.setAF_f (s : State) (w : Word) : (s.setAF w).f = lowByte w &&& 0xF0 := rfl
@[simp] theorem State.setAF_b (s : State) (w : Word) : (s.setAF w).b = s.b := rfl
@[simp] theorem State.setAF_c (s : State) (w : Word) : (s.setAF w).c = s.c := rfl
@[simp] theorem State.setAF_d (s : State) (w : Word) : (s.setAF w).d = s.d := rfl
@[simp] theorem State.setAF_e (s : State) (w : Word) : (s.setAF w).e = s.e := rfl
@[simp] theorem State.setAF_h (s : State) (w : Word) : (s.setAF w).h = s.h := rfl
@[simp] theorem State.setAF_l (s : State) (w : Word) : (s.setAF w).l = s.l := rfl
@[simp] theorem State.setAF_sp (s : State) (w : Word) : (s.setAF w).sp = s.sp := rfl
@[simp] theorem State.setAF_pc (s : State) (w : Word) : (s.setAF w).pc = s.pc := rfl
@[simp] theorem State.setAF_ime (s : State) (w : Word) : (s.setAF w).ime = s.ime := rfl
@[simp] theorem State.setAF_halted (s : State) (w : Word) : (s.setAF w).halted = s.halted := rfl
@[simp] theorem State.setAF_fatal (s : State) (w : Word) : (s.setAF w).fatal = s.fatal := rfl
@[simp] theorem State.setAF_eiPending (s : State) (w : Word) : (s.setAF w).eiPending = s.eiPending := rfl
@[simp] theorem State.setAF_now (s : State) (w : Word) : (s.setAF w).now = s.now := rfl
@[simp] theorem State.setAF_cycles (s : State) (w : Word) : (s.setAF w).cycles = s.cycles := rfl
@[simp] theorem State.setAF_divSub (s : State) (w : Word) : (s.setAF w).divSub = s.divSub := rfl
@[simp] theorem State.setAF_timaSub (s : State) (w : Word) : (s.setAF w).timaSub = s.timaSub := rfl
@[simp] theorem State.setAF_wram (s : State) (w : Word) : (s.setAF w).wram = s.wram := rfl
@[simp] theorem State.setAF_hram (s : State) (w : Word) : (s.setAF w).hram = s.hram := rfl
@[simp] theorem State.setAF_io (s : State) (w : Word) : (s.setAF w).io = s.io := rfl
@[simp] theorem State.setAF_vram (s : State) (w : Word) : (s.setAF w).vram = s.vram := rfl
@[simp] theorem State.setAF_oam (s : State) (w : Word) : (s.setAF w).oam = s.oam := rfl
@[simp] theorem State.setAF_ie (s : State) (w : Word) : (s.setAF w).ie = s.ie := rfl
@[simp] theorem State.setAF_bootActive (s : State) (w : Word) : (s.setAF w).bootActive = s.bootActive := rfl
@[simp] theorem State.setAF_cart (s : State) (w : Word) : (s.setAF w).cart = s.cart := rfl
@[simp] theorem State.setAF_cartRam (s : State) (w : Word) : (s.setAF w).cartRam = s.cartRam := rfl
@[simp] theorem State.setAF_mode (s : State) (w : Word) : (s.setAF w).mode = s.mode := rfl
@[simp] theorem State.setAF_wlc (s : State) (w : Word) : (s.setAF w).wlc = s.wlc := rfl
@[simp] theorem State.setAF_bgidx (s : State) (w : Word) : (s.setAF w).bgidx = s.bgidx := rfl
@[simp] theorem State.setAF_fb (s : State) (w : Word) : (s.setAF w).fb = s.fb := rfl
@[simp] theorem State.setAF_entries (s : State) (w : Word) : (s.setAF w).entries = s.entries := rfl
@[simp] theorem State.setAF_modelFault (s : State) (w : Word) : (s.setAF w).modelFault = s.modelFault := rfl
@[simp] theorem State.setAF_pressed (s : State) (w : Word) : (s.setAF w).pressed = s.pressed := rfl
@[simp] theorem State.setAF_keyInput (s : State) (w : Word) : (s.setAF w).keyInput = s.keyInput := rfl
@[simp] theorem State.setAF_cfg (s : State) (w : Word) : (s.setAF w).cfg = s.cfg := rfl

@[simp] theorem State.popped_a (s : State) : (s.popped).a = s.a := rfl
@[simp] theorem State.popped_f (s : State) : (s.popped).f = s.f := rfl
@[simp] theorem State.popped_b (s : State) : (s.popped).b = s.b := rfl
@[simp] theorem State.popped_c (s : State) : (s.popped).c = s.c := rfl
@[simp] theorem State.popped_d (s : State) : (s.popped).d = s.d := rfl
@[simp] theorem State.popped_e (s : State) : (s.popped).e = s.e := rfl
@[simp] theorem State.popped_h (s : State) : (s.popped).h = s.h := rfl
@[simp] theorem State.popped_l (s : State) : (s.popped).l = s.l := rfl
@[simp] theorem State.popped_sp (s : State) : (s.popped).sp = s.sp + 2 := rfl
@[simp] theorem State.popped_pc (s : State) : (s.popped).pc = s.pc := rfl
@[simp] theorem State.popped_ime (s : State) : (s.popped).ime = s.ime := rfl
@[simp] theorem State.popped_halted (s : State) : (s.popped).halted = s.halted := rfl
@[simp] theorem State.popped_fatal (s : State) : (s.popped).fatal = s.fatal := rfl
@[simp] theorem State.popped_eiPending (s : State) : (s.popped).eiPending = s.eiPending := rfl
@[simp] theorem State.popped_now (s : State) : (s.popped).now = s.now := rfl
@[simp] theorem State.popped_cycles (s : State) : (s.popped).cycles = s.cycles := rfl
@[simp] theorem State.popped_divSub (s : State) : (s.popped).divSub = s.divSub := rfl
@[simp] theorem State.popped_timaSub (s : State) : (s.popped).timaSub = s.timaSub := rfl
@[simp] theorem State.popped_wram (s : State) : (s.popped).wram = s.wram := rfl
@[simp] theorem State.popped_hram (s : State) : (s.popped).hram = s.hram := rfl
@[simp] theorem State.popped_io (s : State) : (s.popped).io = s.io := rfl
@[simp] theorem State.popped_vram (s : State) : (s.popped).vram = s.vram := rfl
@[simp] theorem State.popped_oam (s : State) : (s.popped).oam = s.oam := rfl
@[simp] theorem State.popped_ie (s : State) : (s.popped).ie = s.ie := rfl
@[simp] theorem State.popped_bootActive (s : State) : (s.popped).bootActive = s.bootActive := rfl
@[simp] theorem State.popped_cart (s : State) : (s.popped).cart = s.cart := rfl
@[simp] theorem State.popped_cartRam (s : State) : (s.popped).cartRam = s.cartRam := rfl
@[simp] theorem State.popped_mode (s : State) : (s.popped).mode = s.mode := rfl
@[simp] theorem State.popped_wlc (s : State) : (s.popped).wlc = s.wlc := rfl
@[simp] theorem State.popped_bgidx (s : State) : (s.popped).bgidx = s.bgidx := rfl
@[simp] theorem State.popped_fb (s : State) : (s.popped).fb = s.fb := rfl
@[simp] theorem State.popped_entries (s : State) : (s.popped).entries = s.entries := rfl
@[simp] theorem State.popped_modelFault (s : State) : (s.popped).modelFault = s.modelFault := rfl
@[simp] theorem State.popped_pressed (s : State) : (s.popped).pressed = s.pressed := rfl
@[simp] theorem State.popped_keyInput (s : State) : (s.popped).keyInput = s.keyInput := rfl
@[simp] theorem State.popped_cfg (s : State) : (s.popped).cfg = s.cfg := rfl

@[simp] theorem State.setIo_a (s : State) (off : Nat) (v : Byte) : (s.setIo off v).a = s.a := rfl
@[simp] theorem State.setIo_f (s : State) (off : Nat) (v : Byte) : (s.setIo off v).f = s.f := rfl
@[simp] theorem State.setIo_b (s : State) (off : Nat) (v : Byte) : (s.setIo off v).b = s.b := rfl
@[simp] theorem State.setIo_c (s : State) (off : Nat) (v : Byte) : (s.setIo off v).c = s.c := rfl
@[simp] theorem State.setIo_d (s : State) (off : Nat) (v : Byte) : (s.setIo off v).d = s.d := rfl
@[simp] theorem State.setIo_e (s : State) (off : Nat) (v : Byte) : (s.setIo off v).e = s.e := rfl
@[simp] theorem State.setIo_h (s : State) (off : Nat) (v : Byte) : (s.setIo off v).h = s.h := rfl
@[simp] theorem State.setIo_l (s : State) (off : Nat) (v : Byte) : (s.setIo off v).l = s.l := rfl
@[simp] theorem State.setIo_sp (s : State) (off : Nat) (v : Byte) : (s.setIo off v).sp = s.sp := rfl
@[simp] theorem State.setIo_pc (s : State) (off : Nat) (v : Byte) : (s.setIo off v).pc = s.pc := rfl
@[simp] theorem State.setIo_ime (s : State) (off : Nat) (v : Byte) : (s.setIo off v).ime = s.ime := rfl
@[simp] theorem State.setIo_halted (s : State) (off : Nat) (v : Byte) : (s.setIo off v).halted = s.halted := rfl
@[simp] theorem State.setIo_fatal (s : State) (off : Nat) (v : Byte) : (s.setIo off v).fatal = s.fatal := rfl
@[simp] theorem State.setIo_eiPending (s : State) (off : Nat) (v : Byte) : (s.setIo off v).eiPending = s.eiPending := rfl
@[simp] theorem State.setIo_now (s : State) (off : Nat) (v : Byte) : (s.setIo off v).now = s.now := rfl
@[simp] theorem State.setIo_cycles (s : State) (off : Nat) (v : Byte) : (s.setIo off v).cycles = s.cycles := rfl
@[simp] theorem State.setIo_divSub (s : State) (off : Nat) (v : Byte) : (s.setIo off v).divSub = s.divSub := rfl
@[simp] theorem State.setIo_timaSub (s : State) (off : Nat) (v : Byte) : (s.setIo off v).timaSub = s.timaSub := rfl
@[simp] theorem State.setIo_wram (s : State) (off : Nat) (v : Byte) : (s.setIo off v).wram = s.wram := rfl
@[simp] theorem State.setIo_hram (s : State) (off : Nat) (v : Byte) : (s.setIo off v).hram = s.hram := rfl
@[simp] theorem State.setIo_io (s : State) (off : Nat) (v : Byte) : (s.setIo off v).io = Memory.write s.io off v := rfl
@[simp] theorem State.setIo_vram (s : State) (off : Nat) (v : Byte) : (s.setIo off v).vram = s.vram := rfl
@[simp] theorem State.setIo_oam (s : State) (off : Nat) (v : Byte) : (s.setIo off v).oam = s.oam := rfl
@[simp] theorem State.setIo_ie (s : State) (off : Nat) (v : Byte) : (s.setIo off v).ie = s.ie := rfl
@[simp] theorem State.setIo_bootActive (s : State) (off : Nat) (v : Byte) : (s.setIo off v).bootActive = s.bootActive := rfl
@[simp] theorem State.setIo_cart (s : State) (off : Nat) (v : Byte) : (s.setIo off v).cart = s.cart := rfl
@[simp] theorem State.setIo_cartRam (s : State) (off : Nat) (v : Byte) : (s.setIo off v).cartRam = s.cartRam := rfl
@[simp] theorem State.setIo_mode (s : State) (off : Nat) (v : Byte) : (s.setIo off v).mode = s.mode := rfl
@[simp] theorem State.setIo_wlc (s : State) (off : Nat) (v : Byte) : (s.setIo off v).wlc = s.wlc := rfl
@[simp] theorem State.setIo_bgidx (s : State) (off : Nat) (v : Byte) : (s.setIo off v).bgidx = s.bgidx := rfl
@[simp] theorem State.setIo_fb (s : State) (off : Nat) (v : Byte) : (s.setIo off v).fb = s.fb := rfl
@[simp] theorem State.setIo_entries (s : State) (off : Nat) (v : Byte) : (s.setIo off v).entries = s.entries := rfl
@[simp] theorem State.setIo_modelFault (s : State) (off : Nat) (v : Byte) : (s.setIo off v).modelFault = s.modelFault := rfl
@[simp] theorem State.setIo_pressed (s : State) (off : Nat) (v : Byte) : (s.setIo off v).pressed = s.pressed := rfl
@[simp] theorem State.setIo_keyInput (s : State) (off : Nat) (v : Byte) : (s.setIo off v).keyInput = s.keyInput := rfl
@[simp] theorem State.setIo_cfg (s : State) (off : Nat) (v : Byte) : (s.setIo off v).cfg = s.cfg := rfl

@[simp] theorem State.withCpu_a (s : State) (r : CpuRegs) : (s.withCpu r).a = r.a := rfl
@[simp] theorem State.withCpu_f (s : State) (r : CpuRegs) : (s.withCpu r).f = r.f := rfl
@[simp] theorem State.withCpu_b (s : State) (r : CpuRegs) : (s.withCpu r).b = r.b := rfl
@[simp] theorem State.withCpu_c (s : State) (r : CpuRegs) : (s.withCpu r).c = r.c := rfl
@[simp] theorem State.withCpu_d (s : State) (r : CpuRegs) : (s.withCpu r).d = r.d := rfl
@[simp] theorem State.withCpu_e (s : State) (r : CpuRegs) : (s.withCpu r).e = r.e := rfl
@[simp] theorem State.withCpu_h (s : State) (r : CpuRegs) : (s.withCpu r).h = r.h := rfl
@[simp] theorem State.withCpu_l (s : State) (r : CpuRegs) : (s.withCpu r).l = r.l := rfl
@[simp] theorem State.withCpu_sp (s : State) (r : CpuRegs) : (s.withCpu r).sp = r.sp := rfl
@[simp] theorem State.withCpu_pc (s : State) (r : CpuRegs) : (s.withCpu r).pc = r.pc := rfl
@[simp] theorem State.withCpu_ime (s : State) (r : CpuRegs) : (s.withCpu r).ime = r.ime := rfl
@[simp] theorem State.withCpu_halted (s : State) (r : CpuRegs) : (s.withCpu r).halted = r.halted := rfl
@[simp] theorem State.withCpu_fatal (s : State) (r : CpuRegs) : (s.withCpu r).fatal = r.fatal := rfl
@[simp] theorem State.withCpu_eiPending (s : State) (r : CpuRegs) : (s.withCpu r).eiPending = r.eiPending := rfl
@[simp] theorem State.withCpu_now (s : State) (r : CpuRegs) : (s.withCpu r).now = s.now := rfl
@[simp] theorem State.withCpu_cycles (s : State) (r : CpuRegs) : (s.withCpu r).cycles = r.cycles := rfl
@[simp] theorem State.withCpu_divSub (s : State) (r : CpuRegs) : (s.withCpu r).divSub = s.divSub := rfl
@[simp] theorem State.withCpu_timaSub (s : State) (r : CpuRegs) : (s.withCpu r).timaSub = s.timaSub := rfl
@[simp] theorem State.withCpu_wram (s : State) (r : CpuRegs) : (s.withCpu r).wram = s.wram := rfl
@[simp] theorem State.withCpu_hram (s : State) (r : CpuRegs) : (s.withCpu r).hram = s.hram := rfl
@[simp] theorem State.withCpu_io (s : State) (r : CpuRegs) : (s.withCpu r).io = s.io := rfl
@[simp] theorem State.withCpu_vram (s : State) (r : CpuRegs) : (s.withCpu r).vram = s.vram := rfl
@[simp] theorem State.withCpu_oam (s : State) (r : CpuRegs) : (s.withCpu r).oam = s.oam := rfl
@[simp] theorem State.withCpu_ie (s : State) (r : CpuRegs) : (s.withCpu r).ie = s.ie := rfl
@[simp] theorem State.withCpu_bootActive (s : State) (r : CpuRegs) : (s.withCpu r).bootActive = s.bootActive := rfl
@[simp] theorem State.withCpu_cart (s : State) (r : CpuRegs) : (s.withCpu r).cart = s.cart := rfl
@[simp] theorem State.withCpu_cartRam (s : State) (r : CpuRegs) : (s.withCpu r).cartRam = s.cartRam := rfl
@[simp] theorem State.withCpu_mode (s : State) (r : CpuRegs) : (s.withCpu r).mode = s.mode := rfl
@[simp] theorem State.withCpu_wlc (s : State) (r : CpuRegs) : (s.withCpu r).wlc = s.wlc := rfl
@[simp] theorem State.withCpu_bgidx (s : State) (r : CpuRegs) : (s.withCpu r).bgidx = s.bgidx := rfl
@[simp] theorem State.withCpu_fb (s : State) (r : CpuRegs) : (s.withCpu r).fb = s.fb := rfl
@[simp] theorem State.withCpu_entries (s : State) (r : CpuRegs) : (s.withCpu r).entries = s.entries := rfl
@[simp] theorem State.withCpu_modelFault (s : State) (r : CpuRegs) : (s.withCpu r).modelFault = s.modelFault := rfl
@[simp] theorem State.withCpu_pressed (s : State) (r : CpuRegs) : (s.withCpu r).pressed = s.pressed := rfl
@[simp] theorem State.withCpu_keyInput (s : State) (r : CpuRegs) : (s.withCpu r).keyInput = s.keyInput := rfl
@[simp] theorem State.withCpu_cfg (s : State) (r : CpuRegs) : (s.withCpu r).cfg = s.cfg := rfl

@[simp] theorem schedPush_a (s : State) (t : Nat) (k : EventKind) : (schedPush s t k).a = s.a := by
  unfold schedPush; split <;> (try split) <;> (try split) <;> rfl
@[simp] theorem schedPush_f (s : State) (t : Nat) (k : EventKind) : (schedPush s t k).f = s.f := by
  unfold schedPush; split <;> (try split) <;> (try split) <;> rfl
@[simp] theorem schedPush_b (s : State) (t : Nat) (k : EventKind) : (schedPush s t k).b = s.b := by
  unfold schedPush; split <;> (try split) <;> (try split) <;> rfl
@[simp] theorem schedPush_c (s : State) (t : Nat) (k : EventKind) : (schedPush s t k).c = s.c := by
  unfold schedPush; split <;> (try split) <;> (try split) <;> rfl
@[simp] theorem schedPush_d (s : State) (t : Nat) (k : EventKind) : (schedPush s t k).d = s.d := by
  unfold schedPush; split <;> (try split) <;> (try split) <;> rfl
@[simp] theorem schedPush_e (s : State) (t : Nat) (k : EventKind) : (schedPush s t k).e = s.e := by
  unfold schedPush; split <;> (try split) <;> (try split) <;> rfl
@[simp] theorem schedPush_h (s : State) (t : Nat) (k : EventKind) : (schedPush s t k).h = s.h := by
  unfold schedPush; split <;> (try split) <;> (try split) <;> rfl
@[simp] theorem schedPush_l (s : State) (t : Nat) (k : EventKind) : (schedPush s t k).l = s.l := by
  unfold schedPush; split <;> (try split) <;> (try split) <;> rfl
@[simp] theorem schedPush_sp (s : State) (t : Nat) (k : EventKind) : (schedPush s t k).sp = s.sp := by
  unfold schedPush; split <;> (try split) <;> (try split) <;> rfl
@[simp] theorem schedPush_pc (s : State) (t : Nat) (k : EventKind) : (schedPush s t k).pc = s.pc := by
  unfold schedPush; split <;> (try split) <;> (try split) <;> rfl
@[simp] theorem schedPush_ime (s : State) (t : Nat) (k : EventKind) : (schedPush s t k).ime = s.ime := by
  unfold schedPush; split <;> (try split) <;> (try split) <;> rfl
@[simp] theorem schedPush_halted (s : State) (t : Nat) (k : EventKind) : (schedPush s t k).halted = s.halted := by
  unfold schedPush; split <;> (try split) <;> (try split) <;> rfl
@[simp] theorem schedPush_fatal (s : State) (t : Nat) (k : EventKind) : (schedPush s t k).fatal = s.fatal := by
  unfold schedPush; split <;> (try split) <;> (try split) <;> rfl
@[simp] theorem schedPush_eiPending (s : State) (t : Nat) (k : EventKind) : (schedPush s t k).eiPending = s.eiPending := by
  unfold schedPush; split <;> (try split) <;> (try split) <;> rfl
@[simp] theorem schedPush_now (s : State) (t : Nat) (k : EventKind) : (schedPush s t k).now = s.now := by
  unfold schedPush; split <;> (try split) <;> (try split) <;> rfl
@[simp] theorem schedPush_cycles (s : State) (t : Nat) (k : EventKind) : (schedPush s t k).cycles = s.cycles := by
  unfold schedPush; split <;> (try split) <;> (try split) <;> rfl
@[simp] theorem schedPush_divSub (s : State) (t : Nat) (k : EventKind) : (schedPush s t k).divSub = s.divSub := by
  unfold schedPush; split <;> (try split) <;> (try split) <;> rfl
@[simp] theorem schedPush_timaSub (s : State) (t : Nat) (k : EventKind) : (schedPush s t k).timaSub = s.timaSub := by
  unfold schedPush; split <;> (try split) <;> (try split) <;> rfl
@[simp] theorem schedPush_wram (s : State) (t : Nat) (k : EventKind) : (schedPush s t k).wram = s.wram := by
  unfold schedPush; split <;> (try split) <;> (try split) <;> rfl
@[simp] theorem schedPush_hram (s : State) (t : Nat) (k : EventKind) : (schedPush s t k).hram = s.hram := by
  unfold schedPush; split <;> (try split) <;> (try split) <;> rfl
@[simp] theorem schedPush_io (s : State) (t : Nat) (k : EventKind) : (schedPush s t k).io = s.io := by
  unfold schedPush; split <;> (try split) <;> (try split) <;> rfl
@[simp] theorem schedPush_vram (s : State) (t : Nat) (k : EventKind) : (schedPush s t k).vram = s.vram := by
  unfold schedPush; split <;> (try split) <;> (try split) <;> rfl
@[simp] theorem schedPush_oam (s : State) (t : Nat) (k : EventKind) : (schedPush s t k).oam = s.oam := by
  unfold schedPush; split <;> (try split) <;> (try split) <;> rfl
@[simp] theorem schedPush_ie (s : State) (t : Nat) (k : EventKind) : (schedPush s t k).ie = s.ie := by
  unfold schedPush; split <;> (try split) <;> (try split) <;> rfl
@[simp] theorem schedPush_bootActive (s : State) (t : Nat) (k : EventKind) : (schedPush s t k).bootActive = s.bootActive := by
  unfold schedPush; split <;> (try split) <;> (try split) <;> rfl
@[simp] theorem schedPush_cart (s : State) (t : Nat) (k : EventKind) : (schedPush s t k).cart = s.cart := by
  unfold schedPush; split <;> (try split) <;> (try split) <;> rfl
@[simp] theorem schedPush_cartRam (s : State) (t : Nat) (k : EventKind) : (schedPush s t k).cartRam = s.cartRam := by
  unfold schedPush; split <;> (try split) <;> (try split) <;> rfl
@[simp] theorem schedPush_mode (s : State) (t : Nat) (k : EventKind) : (schedPush s t k).mode = s.mode := by
  unfold schedPush; split <;> (try split) <;> (try split) <;> rfl
@[simp] theorem schedPush_wlc (s : State) (t : Nat) (k : EventKind) : (schedPush s t k).wlc = s.wlc := by
  unfold schedPush; split <;> (try split) <;> (try split) <;> rfl
@[simp] theorem schedPush_bgidx (s : State) (t : Nat) (k : EventKind) : (schedPush s t k).bgidx = s.bgidx := by
  unfold schedPush; split <;> (try split) <;> (try split) <;> rfl
@[simp] theorem schedPush_fb (s : State) (t : Nat) (k : EventKind) : (schedPush s t k).fb = s.fb := by
  unfold schedPush; split <;> (try split) <;> (try split) <;> rfl
@[simp] theorem schedPush_pressed (s : State) (t : Nat) (k : EventKind) : (schedPush s t k).pressed = s.pressed := by
  unfold schedPush; split <;> (try split) <;> (try split) <;> rfl
@[simp] theorem schedPush_keyInput (s : State) (t : Nat) (k : EventKind) : (schedPush s t k).keyInput = s.keyInput := by
  unfold schedPush; split <;> (try split) <;> (try split) <;> rfl
@[simp] theorem schedPush_cfg (s : State) (t : Nat) (k : EventKind) : (schedPush s t k).cfg = s.cfg := by
  unfold schedPush; split <;> (try split) <;> (try split) <;> rfl

@[simp] theorem State.withCpu_cpu (s : State) : s.withCpu s.cpu = s := rfl
@[simp] theorem State.withCpu_withCpu (s : State) (r q : CpuRegs) : (s.withCpu r).withCpu q = s.withCpu q := rfl
@[simp] theorem State.cpu_withCpu (s : State) (r : CpuRegs) : (s.withCpu r).cpu = r := rfl

@[simp] theorem State.setReg_f (s : State) (r : Reg8) (v : Byte) : (s.setReg r v).f = s.f := by cases r <;> rfl
@[simp] theorem State.setReg_sp (s : State) (r : Reg8) (v : Byte) : (s.setReg r v).sp = s.sp := by cases r <;> rfl
@[simp] theorem State.setReg_pc (s : State) (r : Reg8) (v : Byte) : (s.setReg r v).pc = s.pc := by cases r <;> rfl
@[simp] theorem State.setReg_ime (s : State) (r : Reg8) (v : Byte) : (s.setReg r v).ime = s.ime := by cases r <;> rfl
@[simp] theorem State.setReg_halted (s : State) (r : Reg8) (v : Byte) : (s.setReg r v).halted = s.halted := by cases r <;> rfl
@[simp] theorem State.setReg_fatal (s : State) (r : Reg8) (v : Byte) : (s.setReg r v).fatal = s.fatal := by cases r <;> rfl
@[simp] theorem State.setReg_eiPending (s : State) (r : Reg8) (v : Byte) : (s.setReg r v).eiPending = s.eiPending := by cases r <;> rfl
@[simp] theorem State.setReg_now (s : State) (r : Reg8) (v : Byte) : (s.setReg r v).now = s.now := by cases r <;> rfl
@[simp] theorem State.setReg_cycles (s : State) (r : Reg8) (v : Byte) : (s.setReg r v).cycles = s.cycles := by cases r <;> rfl
@[simp] theorem State.setReg_divSub (s : State) (r : Reg8) (v : Byte) : (s.setReg r v).divSub = s.divSub := by cases r <;> rfl
@[simp] theorem State.setReg_timaSub (s : State) (r : Reg8) (v : Byte) : (s.setReg r v).timaSub = s.timaSub := by cases r <;> rfl
@[simp] theorem State.setReg_wram (s : State) (r : Reg8) (v : Byte) : (s.setReg r v).wram = s.wram := by cases r <;> rfl
@[simp] theorem State.setReg_hram (s : State) (r : Reg8) (v : Byte) : (s.setReg r v).hram = s.hram := by cases r <;> rfl
@[simp] theorem State.setReg_io (s : State) (r : Reg8) (v : Byte) : (s.setReg r v).io = s.io := by cases r <;> rfl
@[simp] theorem State.setReg_vram (s : State) (r : Reg8) (v : Byte) : (s.setReg r v).vram = s.vram := by cases r <;> rfl
@[simp] theorem State.setReg_oam (s : State) (r : Reg8) (v : Byte) : (s.setReg r v).oam = s.oam := by cases r <;> rfl
@[simp] theorem State.setReg_ie (s : State) (r : Reg8) (v : Byte) : (s.setReg r v).ie = s.ie := by cases r <;> rfl
@[simp] theorem State.setReg_bootActive (s : State) (r : Reg8) (v : Byte) : (s.setReg r v).bootActive = s.bootActive := by cases r <;> rfl
@[simp] theorem State.setReg_cart (s : State) (r : Reg8) (v : Byte) : (s.setReg r v).cart = s.cart := by cases r <;> rfl
@[simp] theorem State.setReg_cartRam (s : State) (r : Reg8) (v : Byte) : (s.setReg r v).cartRam = s.cartRam := by cases r <;> rfl
@[simp] theorem State.setReg_mode (s : State) (r : Reg8) (v : Byte) : (s.setReg r v).mode = s.mode := by cases r <;> rfl
@[simp] theorem State.setReg_wlc (s : State) (r : Reg8) (v : Byte) : (s.setReg r v).wlc = s.wlc := by cases r <;> rfl
@[simp] theorem State.setReg_bgidx (s : State) (r : Reg8) (v : Byte) : (s.setReg r v).bgidx = s.bgidx := by cases r <;> rfl
@[simp] theorem State.setReg_fb (s : State) (r : Reg8) (v : Byte) : (s.setReg r v).fb = s.fb := by cases r <;> rfl
@[simp] theorem State.setReg_entries (s : State) (r : Reg8) (v : Byte) : (s.setReg r v).entries = s.entries := by cases r <;> rfl
@[simp] theorem State.setReg_modelFault (s : State) (r : Reg8) (v : Byte) : (s.setReg r v).modelFault = s.modelFault := by cases r <;> rfl
@[simp] theorem State.setReg_pressed (s : State) (r : Reg8) (v : Byte) : (s.setReg r v).pressed = s.pressed := by cases r <;> rfl
@[simp] theorem State.setReg_keyInput (s : State) (r : Reg8) (v : Byte) : (s.setReg r v).keyInput = s.keyInput := by cases r <;> rfl
@[simp] theorem State.setReg_cfg (s : State) (r : Reg8) (v : Byte) : (s.setReg r v).cfg = s.cfg := by cases r <;> rfl
@[simp] theorem State.reg_setReg_same (s : State) (r : Reg8) (v : Byte) : (s.setReg r v).reg r = v := by cases r <;> rfl
theorem State.reg_setReg_other (s : State) (r q : Reg8) (v : Byte) (h : q ≠ r) : (s.setReg r v).reg q = s.reg q := by
  cases r <;> cases q <;> first | rfl | exact absurd rfl h

end Sys2Proof.Machine
end

