-- ==== Sys2Proof/Laws/Bus.lean ====
section
/-! SUPPORT. What the bus does to a state and what it leaves: it never reads or writes the CPU's own registers, a write
changes only the parts named here, and every array keeps its canonical form. -/

namespace Sys2Proof.Machine

/-! The CPU's own registers play no part on the bus. -/

@[simp] theorem busRead_withCpu (s : State) (r : CpuRegs) (a : Word) : busRead (s.withCpu r) a = busRead s a := rfl

@[simp] theorem memRead_withCpu (s : State) (r : CpuRegs) (a : Word) : (s.withCpu r).memRead a = s.memRead a := rfl

theorem withCpu_ite (c : Prop) [Decidable c] (x y : State) (r : CpuRegs) :
    (if c then x else y).withCpu r = if c then x.withCpu r else y.withCpu r := by split <;> rfl

theorem schedPush_withCpu (s : State) (r : CpuRegs) (t : Nat) (k : EventKind) :
    schedPush (s.withCpu r) t k = (schedPush s t k).withCpu r := by
  unfold schedPush
  rw [withCpu_ite, withCpu_ite, withCpu_ite]
  rfl

/-- The OAM copy is the fold of its 160 byte copies and changes `oam` alone. -/
theorem oamCopyFold (v : Byte) (is : List Nat) (s : State) :
    is.foldl (oamCopyByte v) s = { s with oam := (is.foldl (oamCopyByte v) s).oam } := by
  induction is generalizing s with
  | nil => rfl
  | cons i is ih =>
    simp only [List.foldl_cons]
    rw [ih]
    rfl

theorem oamCopy_eq (s : State) (v : Byte) : oamCopy s v = { s with oam := (oamCopy s v).oam } := oamCopyFold v _ s

theorem oamCopyFold_withCpu (v : Byte) (is : List Nat) (s : State) (r : CpuRegs) :
    is.foldl (oamCopyByte v) (s.withCpu r) = (is.foldl (oamCopyByte v) s).withCpu r := by
  induction is generalizing s with
  | nil => rfl
  | cons i is ih =>
    simp only [List.foldl_cons]
    rw [← ih]
    rfl

theorem oamCopy_withCpu (s : State) (r : CpuRegs) (v : Byte) : oamCopy (s.withCpu r) v = (oamCopy s v).withCpu r :=
  oamCopyFold_withCpu v _ s r

theorem displayEnable_withCpu (s : State) (r : CpuRegs) :
    displayEnable (s.withCpu r) = (displayEnable s).withCpu r := by
  unfold displayEnable
  rw [← schedPush_withCpu]
  rfl

theorem writeLcdc_withCpu (s : State) (r : CpuRegs) (v : Byte) :
    writeLcdc (s.withCpu r) v = (writeLcdc s v).withCpu r := by
  unfold writeLcdc
  dsimp only
  rw [withCpu_ite, withCpu_ite, ← displayEnable_withCpu]
  rfl

theorem ioWrite_withCpu (s : State) (r : CpuRegs) (off : Nat) (v : Byte) :
    ioWrite (s.withCpu r) off v = (ioWrite s off v).withCpu r := by
  unfold ioWrite
  rw [withCpu_ite, withCpu_ite, withCpu_ite, withCpu_ite, withCpu_ite, withCpu_ite, withCpu_ite, ← writeLcdc_withCpu,
    ← oamCopy_withCpu]
  rfl

/-- A bus write does to a state what it does to the same state with another CPU, the CPU apart. -/
theorem busWrite_withCpu (s : State) (r : CpuRegs) (a : Word) (v : Byte) :
    busWrite (s.withCpu r) a v = (busWrite s a v).withCpu r := by
  unfold busWrite
  dsimp only
  rw [withCpu_ite, withCpu_ite, withCpu_ite, withCpu_ite, withCpu_ite, withCpu_ite, withCpu_ite, withCpu_ite, withCpu_ite,
    withCpu_ite, withCpu_ite, ← ioWrite_withCpu]
  rfl

/-! What a bus write leaves. -/

/-- The parts of a state that no bus write changes (R66, R67, R77, R81, R413, R414). -/
structure SameOffBus (s t : State) : Prop where
  cpu : t.cpu = s.cpu
  now : t.now = s.now
  timaSub : t.timaSub = s.timaSub
  bgidx : t.bgidx = s.bgidx
  fb : t.fb = s.fb
  pressed : t.pressed = s.pressed
  keyInput : t.keyInput = s.keyInput
  cfg : t.cfg = s.cfg

theorem SameOffBus.refl (s : State) : SameOffBus s s := ⟨rfl, rfl, rfl, rfl, rfl, rfl, rfl, rfl⟩

theorem SameOffBus.trans {s t u : State} (h : SameOffBus s t) (k : SameOffBus t u) : SameOffBus s u :=
  ⟨k.cpu.trans h.cpu, k.now.trans h.now, k.timaSub.trans h.timaSub, k.bgidx.trans h.bgidx, k.fb.trans h.fb,
    k.pressed.trans h.pressed, k.keyInput.trans h.keyInput, k.cfg.trans h.cfg⟩

theorem schedPush_sameOffBus (s : State) (t : Nat) (k : EventKind) : SameOffBus s (schedPush s t k) :=
  ⟨by simp [State.cpu], by simp, by simp, by simp, by simp, by simp, by simp, by simp⟩

theorem displayEnable_sameOffBus (s : State) : SameOffBus s (displayEnable s) := by
  unfold displayEnable
  exact SameOffBus.trans (t := { s.setIo offLY 0 with wlc := 0, mode := .oamScan })
    ⟨rfl, rfl, rfl, rfl, rfl, rfl, rfl, rfl⟩ (schedPush_sameOffBus _ _ _)

theorem writeLcdc_sameOffBus (s : State) (v : Byte) : SameOffBus s (writeLcdc s v) := by
  unfold writeLcdc displayDisable
  dsimp only
  split
  · exact ⟨by simp [State.cpu], rfl, rfl, rfl, rfl, rfl, rfl, rfl⟩
  · split
    · exact SameOffBus.trans (t := s.setIo offLCDC v) ⟨rfl, rfl, rfl, rfl, rfl, rfl, rfl, rfl⟩
        (displayEnable_sameOffBus _)
    · exact ⟨by simp [State.cpu], rfl, rfl, rfl, rfl, rfl, rfl, rfl⟩

theorem oamCopy_sameOffBus (s : State) (v : Byte) : SameOffBus s (oamCopy s v) := by
  have e := oamCopy_eq s v
  generalize oamCopy s v = t at e
  rw [e]
  exact ⟨rfl, rfl, rfl, rfl, rfl, rfl, rfl, rfl⟩

theorem ioWrite_sameOffBus (s : State) (off : Nat) (v : Byte) : SameOffBus s (ioWrite s off v) := by
  unfold ioWrite
  split; · exact ⟨rfl, rfl, rfl, rfl, rfl, rfl, rfl, rfl⟩
  split; · exact ⟨rfl, rfl, rfl, rfl, rfl, rfl, rfl, rfl⟩
  split; · exact writeLcdc_sameOffBus s v
  split; · exact ⟨rfl, rfl, rfl, rfl, rfl, rfl, rfl, rfl⟩
  split; · exact SameOffBus.refl s
  split
  · exact SameOffBus.trans (t := s.setIo offDMA v) ⟨rfl, rfl, rfl, rfl, rfl, rfl, rfl, rfl⟩ (oamCopy_sameOffBus _ v)
  split <;> exact ⟨rfl, rfl, rfl, rfl, rfl, rfl, rfl, rfl⟩

theorem busWrite_sameOffBus (s : State) (a : Word) (v : Byte) : SameOffBus s (busWrite s a v) := by
  unfold busWrite
  dsimp only
  split; · exact ⟨rfl, rfl, rfl, rfl, rfl, rfl, rfl, rfl⟩
  split
  · split
    · exact SameOffBus.refl s
    · exact ⟨rfl, rfl, rfl, rfl, rfl, rfl, rfl, rfl⟩
  split; · exact ⟨rfl, rfl, rfl, rfl, rfl, rfl, rfl, rfl⟩
  split; · exact ⟨rfl, rfl, rfl, rfl, rfl, rfl, rfl, rfl⟩
  split; · exact ⟨rfl, rfl, rfl, rfl, rfl, rfl, rfl, rfl⟩
  split
  · split
    · exact SameOffBus.refl s
    · exact ⟨rfl, rfl, rfl, rfl, rfl, rfl, rfl, rfl⟩
  split; · exact SameOffBus.refl s
  split; · exact ioWrite_sameOffBus s _ v
  split <;> exact ⟨rfl, rfl, rfl, rfl, rfl, rfl, rfl, rfl⟩

/-! The same, field by field. -/

@[simp] theorem busWrite_a (s : State) (a : Word) (v : Byte) : (busWrite s a v).a = s.a :=
  congrArg CpuRegs.a (busWrite_sameOffBus s a v).cpu
@[simp] theorem busWrite_f (s : State) (a : Word) (v : Byte) : (busWrite s a v).f = s.f :=
  congrArg CpuRegs.f (busWrite_sameOffBus s a v).cpu
@[simp] theorem busWrite_b (s : State) (a : Word) (v : Byte) : (busWrite s a v).b = s.b :=
  congrArg CpuRegs.b (busWrite_sameOffBus s a v).cpu
@[simp] theorem busWrite_c (s : State) (a : Word) (v : Byte) : (busWrite s a v).c = s.c :=
  congrArg CpuRegs.c (busWrite_sameOffBus s a v).cpu
@[simp] theorem busWrite_d (s : State) (a : Word) (v : Byte) : (busWrite s a v).d = s.d :=
  congrArg CpuRegs.d (busWrite_sameOffBus s a v).cpu
@[simp] theorem busWrite_e (s : State) (a : Word) (v : Byte) : (busWrite s a v).e = s.e :=
  congrArg CpuRegs.e (busWrite_sameOffBus s a v).cpu
@[simp] theorem busWrite_h (s : State) (a : Word) (v : Byte) : (busWrite s a v).h = s.h :=
  congrArg CpuRegs.h (busWrite_sameOffBus s a v).cpu
@[simp] theorem busWrite_l (s : State) (a : Word) (v : Byte) : (busWrite s a v).l = s.l :=
  congrArg CpuRegs.l (busWrite_sameOffBus s a v).cpu
@[simp] theorem busWrite_sp (s : State) (a : Word) (v : Byte) : (busWrite s a v).sp = s.sp :=
  congrArg CpuRegs.sp (busWrite_sameOffBus s a v).cpu
@[simp] theorem busWrite_pc (s : State) (a : Word) (v : Byte) : (busWrite s a v).pc = s.pc :=
  congrArg CpuRegs.pc (busWrite_sameOffBus s a v).cpu
@[simp] theorem busWrite_ime (s : State) (a : Word) (v : Byte) : (busWrite s a v).ime = s.ime :=
  congrArg CpuRegs.ime (busWrite_sameOffBus s a v).cpu
@[simp] theorem busWrite_halted (s : State) (a : Word) (v : Byte) : (busWrite s a v).halted = s.halted :=
  congrArg CpuRegs.halted (busWrite_sameOffBus s a v).cpu
@[simp] theorem busWrite_fatal (s : State) (a : Word) (v : Byte) : (busWrite s a v).fatal = s.fatal :=
  congrArg CpuRegs.fatal (busWrite_sameOffBus s a v).cpu
@[simp] theorem busWrite_eiPending (s : State) (a : Word) (v : Byte) : (busWrite s a v).eiPending = s.eiPending :=
  congrArg CpuRegs.eiPending (busWrite_sameOffBus s a v).cpu
@[simp] theorem busWrite_cycles (s : State) (a : Word) (v : Byte) : (busWrite s a v).cycles = s.cycles :=
  congrArg CpuRegs.cycles (busWrite_sameOffBus s a v).cpu
@[simp] theorem busWrite_now (s : State) (a : Word) (v : Byte) : (busWrite s a v).now = s.now :=
  (busWrite_sameOffBus s a v).now
@[simp] theorem busWrite_timaSub (s : State) (a : Word) (v : Byte) : (busWrite s a v).timaSub = s.timaSub :=
  (busWrite_sameOffBus s a v).timaSub
@[simp] theorem busWrite_bgidx (s : State) (a : Word) (v : Byte) : (busWrite s a v).bgidx = s.bgidx :=
  (busWrite_sameOffBus s a v).bgidx
@[simp] theorem busWrite_fb (s : State) (a : Word) (v : Byte) : (busWrite s a v).fb = s.fb :=
  (busWrite_sameOffBus s a v).fb
@[simp] theorem busWrite_pressed (s : State) (a : Word) (v : Byte) : (busWrite s a v).pressed = s.pressed :=
  (busWrite_sameOffBus s a v).pressed
@[simp] theorem busWrite_keyInput (s : State) (a : Word) (v : Byte) : (busWrite s a v).keyInput = s.keyInput :=
  (busWrite_sameOffBus s a v).keyInput
@[simp] theorem busWrite_cfg (s : State) (a : Word) (v : Byte) : (busWrite s a v).cfg = s.cfg :=
  (busWrite_sameOffBus s a v).cfg

/-- A bus write leaves the CPU's own part: it may be put back from the old state. -/
theorem busWrite_cpu (s : State) (a : Word) (v : Byte) : busWrite s a v = (busWrite s a v).withCpu s.cpu := by
  conv => lhs; rw [← State.withCpu_cpu (busWrite s a v), (busWrite_sameOffBus s a v).cpu]

/-- The same of two writes. -/
theorem busWrite_busWrite_cpu (s : State) (a b : Word) (v w : Byte) :
    busWrite (busWrite s a v) b w = (busWrite (busWrite s a v) b w).withCpu s.cpu := by
  conv => lhs; rw [busWrite_cpu, (busWrite_sameOffBus s a v).cpu]

/-! The canonical form. -/

theorem setIo_canonical {s : State} {off : Nat} {v : Byte} (h : MemoriesCanonical s) (ho : off < ioSize) :
    MemoriesCanonical (s.setIo off v) :=
  ⟨h.ramNonempty, h.wram, h.hram, Memory.write_wf h.io ho, h.vram, h.oam, h.cartRam⟩

theorem schedPush_canonical {s : State} {t : Nat} {k : EventKind} (h : MemoriesCanonical s) :
    MemoriesCanonical (schedPush s t k) :=
  ⟨by simpa using h.ramNonempty, by simpa using h.wram, by simpa using h.hram, by simpa using h.io,
    by simpa using h.vram, by simpa using h.oam, by simpa using h.cartRam⟩

theorem oamCopyFold_canonical (v : Byte) (is : List Nat) {s : State} (h : MemoriesCanonical s)
    (hi : ∀ i ∈ is, i < oamSize) : MemoriesCanonical (is.foldl (oamCopyByte v) s) := by
  induction is generalizing s with
  | nil => exact h
  | cons i is ih =>
    refine ih (s := oamCopyByte v s i) ?_ fun j hj => hi j (List.mem_cons_of_mem _ hj)
    exact ⟨h.ramNonempty, h.wram, h.hram, h.io, h.vram, Memory.write_wf h.oam (hi i (List.mem_cons_self ..)), h.cartRam⟩

theorem oamCopy_canonical {s : State} {v : Byte} (h : MemoriesCanonical s) : MemoriesCanonical (oamCopy s v) :=
  oamCopyFold_canonical v _ h fun _ hi => List.mem_range.mp hi

theorem writeLcdc_canonical {s : State} {v : Byte} (h : MemoriesCanonical s) : MemoriesCanonical (writeLcdc s v) := by
  have h1 : MemoriesCanonical (s.setIo offLCDC v) := setIo_canonical h (by decide)
  have h2 : MemoriesCanonical ((s.setIo offLCDC v).setIo offLY 0) := setIo_canonical h1 (by decide)
  unfold writeLcdc
  split
  · exact ⟨h2.ramNonempty, h2.wram, h2.hram, h2.io, h2.vram, h2.oam, h2.cartRam⟩
  · split
    · exact schedPush_canonical ⟨h2.ramNonempty, h2.wram, h2.hram, h2.io, h2.vram, h2.oam, h2.cartRam⟩
    · exact h1

theorem ioWrite_canonical {s : State} {off : Nat} {v : Byte} (h : MemoriesCanonical s) (ho : off < ioSize) :
    MemoriesCanonical (ioWrite s off v) := by
  unfold ioWrite
  split; · exact setIo_canonical h (by decide)
  split
  · have h1 : MemoriesCanonical (s.setIo offDIV 0) := setIo_canonical h (by decide)
    exact ⟨h1.ramNonempty, h1.wram, h1.hram, h1.io, h1.vram, h1.oam, h1.cartRam⟩
  split; · exact writeLcdc_canonical h
  split; · exact setIo_canonical h (by decide)
  split; · exact h
  split; · exact oamCopy_canonical (setIo_canonical h (by decide))
  split
  · have h1 : MemoriesCanonical (s.setIo offBOOT v) := setIo_canonical h (by decide)
    exact ⟨h1.ramNonempty, h1.wram, h1.hram, h1.io, h1.vram, h1.oam, h1.cartRam⟩
  · exact setIo_canonical h ho

/-- The cell of cartridge RAM that an open gate names lies inside the buffer (R105). -/
theorem cartRamTarget_lt {cfg : Config} {cart : Cartridge} {a off : Nat} (h : 1 ≤ cfg.cartRamBytes)
    (e : cartRamTarget cfg cart a = some off) : off < cfg.cartRamBytes := by
  have key : ∀ n : Nat, n % cfg.cartRamBytes < cfg.cartRamBytes := fun n => Nat.mod_lt n (by omega)
  unfold cartRamTarget ramOff at e
  cases cart with
  | noMbc =>
    simp only [Option.some.injEq] at e
    rw [← e]; exact key _
  | mbc1 r =>
    simp only at e
    split at e
    · simp at e
    · split at e
      · simp only [Option.some.injEq] at e; rw [← e]; exact key _
      · split at e <;> (simp only [Option.some.injEq] at e; rw [← e]; exact key _)
  | mbc2 r =>
    simp only at e
    split at e
    · simp only [Option.some.injEq] at e; rw [← e]; exact key _
    · simp at e
  | mbc3 r =>
    simp only at e
    split at e
    · simp only [Option.some.injEq] at e; rw [← e]; exact key _
    · simp at e
  | mbc5 r =>
    simp only at e
    split at e
    · simp only [Option.some.injEq] at e; rw [← e]; exact key _
    · simp at e

theorem cartWriteRam_wf {cfg : Config} {cart : Cartridge} {m : Memory} {a : Nat} {v : Byte} (h : 1 ≤ cfg.cartRamBytes)
    (w : Memory.wf cfg.cartRamBytes m = true) : Memory.wf cfg.cartRamBytes (cartWriteRam cfg cart m a v) = true := by
  unfold cartWriteRam
  split
  · rename_i off e
    exact Memory.write_wf w (cartRamTarget_lt h e)
  · exact w

/-- Every bus write keeps every array in its canonical form. -/
theorem busWrite_canonical {s : State} {a : Word} {v : Byte} (h : MemoriesCanonical s) :
    MemoriesCanonical (busWrite s a v) := by
  have ha : a.toNat < 0x10000 := a.isLt
  unfold busWrite
  dsimp only
  split; · exact ⟨h.ramNonempty, h.wram, h.hram, h.io, h.vram, h.oam, h.cartRam⟩
  split
  · split
    · exact h
    · exact ⟨h.ramNonempty, h.wram, h.hram, h.io, Memory.write_wf h.vram (by unfold vramSize; omega), h.oam, h.cartRam⟩
  split; · exact ⟨h.ramNonempty, h.wram, h.hram, h.io, h.vram, h.oam, cartWriteRam_wf h.ramNonempty h.cartRam⟩
  split
  · exact ⟨h.ramNonempty, Memory.write_wf h.wram (by unfold wramSize; omega), h.hram, h.io, h.vram, h.oam, h.cartRam⟩
  split
  · exact ⟨h.ramNonempty, Memory.write_wf h.wram (by unfold wramSize; omega), h.hram, h.io, h.vram, h.oam, h.cartRam⟩
  split
  · split
    · exact h
    · exact ⟨h.ramNonempty, h.wram, h.hram, h.io, h.vram, Memory.write_wf h.oam (by unfold oamSize; omega), h.cartRam⟩
  split; · exact h
  split; · exact ioWrite_canonical h (by unfold ioSize; omega)
  split
  · exact ⟨h.ramNonempty, h.wram, Memory.write_wf h.hram (by unfold hramSize; omega), h.io, h.vram, h.oam, h.cartRam⟩
  · exact ⟨h.ramNonempty, h.wram, h.hram, h.io, h.vram, h.oam, h.cartRam⟩

/-! The bus, region by region: the dispatch is unfolded once, and arithmetic picks the region. -/

theorem busWrite_wram {s : State} {a : Word} {v : Byte} (h1 : 0xC000 ≤ a.toNat) (h2 : a.toNat ≤ 0xDFFF) :
    busWrite s a v = { s with wram := Memory.write s.wram (a.toNat - 0xC000) v } := by
  simp only [busWrite]
  repeat' split
  all_goals first | omega | rfl

theorem busRead_wram {s : State} {a : Word} (h1 : 0xC000 ≤ a.toNat) (h2 : a.toNat ≤ 0xDFFF) :
    busRead s a = Memory.read s.wram (a.toNat - 0xC000) := by
  simp only [busRead]
  repeat' split
  all_goals first | omega | rfl

/-- The echo of work RAM (R73). -/
theorem bus_echo {s : State} {a : Word} (v : Byte) (h1 : 0xE000 ≤ a.toNat) (h2 : a.toNat ≤ 0xFDFF) :
    busRead s a = Memory.read s.wram (a.toNat - 0xE000)
      ∧ busWrite s a v = { s with wram := Memory.write s.wram (a.toNat - 0xE000) v } := by
  simp only [busRead, busWrite]
  constructor <;> repeat' split
  all_goals first | omega | rfl

/-- High RAM (R78). -/
theorem bus_hram {s : State} {a : Word} (v : Byte) (h1 : 0xFF80 ≤ a.toNat) (h2 : a.toNat ≤ 0xFFFE) :
    busRead s a = Memory.read s.hram (a.toNat - 0xFF80)
      ∧ busWrite s a v = { s with hram := Memory.write s.hram (a.toNat - 0xFF80) v } := by
  simp only [busRead, busWrite]
  constructor <;> repeat' split
  all_goals first | omega | rfl

/-- Video RAM while it is not locked (R70). -/
theorem bus_vram {s : State} {a : Word} (v : Byte) (h1 : 0x8000 ≤ a.toNat) (h2 : a.toNat ≤ 0x9FFF) (hl : s.vramLocked = false) :
    busRead s a = Memory.read s.vram (a.toNat - 0x8000)
      ∧ busWrite s a v = { s with vram := Memory.write s.vram (a.toNat - 0x8000) v } := by
  simp only [busRead, busWrite, hl, Bool.false_eq_true, if_false]
  constructor <;> repeat' split
  all_goals first | omega | rfl

/-- OAM while it is not locked (R74). -/
theorem bus_oam {s : State} {a : Word} (v : Byte) (h1 : 0xFE00 ≤ a.toNat) (h2 : a.toNat ≤ 0xFE9F) (hl : s.oamLocked = false) :
    busRead s a = Memory.read s.oam (a.toNat - 0xFE00)
      ∧ busWrite s a v = { s with oam := Memory.write s.oam (a.toNat - 0xFE00) v } := by
  simp only [busRead, busWrite, hl, Bool.false_eq_true, if_false]
  constructor <;> repeat' split
  all_goals first | omega | rfl

/-- IE (R79). -/
theorem bus_ie (s : State) (v : Byte) : busRead s 0xFFFF = s.ie ∧ busWrite s 0xFFFF v = { s with ie := v } := ⟨rfl, rfl⟩

theorem busWrite_io {s : State} {a : Word} {v : Byte} (h1 : 0xFF00 ≤ a.toNat) (h2 : a.toNat ≤ 0xFF7F) :
    busWrite s a v = ioWrite s (a.toNat - 0xFF00) v := by
  simp only [busWrite]
  repeat' split
  all_goals first | omega | rfl

theorem busRead_io {s : State} {a : Word} (h1 : 0xFF00 ≤ a.toNat) (h2 : a.toNat ≤ 0xFF7F) :
    busRead s a = ioRead s (a.toNat - 0xFF00) := by
  simp only [busRead]
  repeat' split
  all_goals first | omega | rfl

theorem busWrite_rom {s : State} {a : Word} {v : Byte} (h : a.toNat ≤ 0x7FFF) :
    busWrite s a v = { s with cart := cartWriteRegs s.cfg s.cart a.toNat v } := by
  simp only [busWrite, if_pos h]

/-- The overlay (R68). -/
theorem busRead_overlay {s : State} {a : Word} (h : a.toNat ≤ 0x00FF) (hb : s.bootActive = true) :
    busRead s a = Memory.read s.cfg.bootRom a.toNat := by
  simp only [busRead, h, hb, and_self, if_true]

/-- The cartridge's ROM windows where the overlay does not cover them (R69). -/
theorem busRead_rom {s : State} {a : Word} (h : a.toNat ≤ 0x7FFF) (hb : s.bootActive = false ∨ 0x0100 ≤ a.toNat) :
    busRead s a = cartReadRom s.cfg s.cart a.toNat := by
  have : ¬(a.toNat ≤ 0x00FF ∧ s.bootActive = true) := by
    rcases hb with e | e
    · simp [e]
    · omega
  simp only [busRead, if_neg this, if_pos h]

theorem busWrite_cartRam {s : State} {a : Word} {v : Byte} (h1 : 0xA000 ≤ a.toNat) (h2 : a.toNat ≤ 0xBFFF) :
    busWrite s a v = { s with cartRam := cartWriteRam s.cfg s.cart s.cartRam a.toNat v } := by
  simp only [busWrite]
  repeat' split
  all_goals first | omega | rfl

theorem busRead_cartRam {s : State} {a : Word} (h1 : 0xA000 ≤ a.toNat) (h2 : a.toNat ≤ 0xBFFF) :
    busRead s a = cartReadRam s.cfg s.cart s.cartRam a.toNat := by
  simp only [busRead]
  repeat' split
  all_goals first | omega | rfl

/-- What a store to the cartridge RAM window leaves to be read there: nothing where the gate is closed. -/
theorem busRead_busWrite_cartRam {s : State} {a : Word} {v : Byte} (h : MemoriesCanonical s) (h1 : 0xA000 ≤ a.toNat)
    (h2 : a.toNat ≤ 0xBFFF) :
    busRead (busWrite s a v) a = match cartRamTarget s.cfg s.cart a.toNat with
      | some _ => cartRamReadValue s.cart (cartRamWriteValue s.cart v)
      | none => 0xFF := by
  rw [busRead_cartRam h1 h2, busWrite_cartRam h1 h2]
  simp only [cartReadRam, cartWriteRam]
  split <;> simp only [Memory.read_write_same h.cartRam, *]

end Sys2Proof.Machine
end

