-- ==== Sys2Proof/Laws/Devices.lean ====
section
/-! SUPPORT. What the small operations of the timer, the display controller and the scheduler do to the I/O bytes and to the
event list: one lemma for each operation and each byte that a later proof reads. -/

namespace Sys2Proof.Machine

/-! Stores of I/O bytes. -/

theorem setIo_wf {s : State} {off : Nat} {v : Byte} (h : Memory.wf ioSize s.io = true) (ho : off < ioSize) :
    Memory.wf ioSize (s.setIo off v).io = true := Memory.write_wf h ho

theorem read_setIo_same {s : State} {off : Nat} {v : Byte} (h : Memory.wf ioSize s.io = true) :
    Memory.read (s.setIo off v).io off = v := Memory.read_write_same h

theorem read_setIo_other {s : State} {off j : Nat} {v : Byte} (h : j ≠ off) :
    Memory.read (s.setIo off v).io j = Memory.read s.io j := Memory.read_write_other h

theorem raiseIf_wf {s : State} {m : Byte} (h : Memory.wf ioSize s.io = true) :
    Memory.wf ioSize (s.raiseIf m).io = true := setIo_wf h (by decide)

/-- `raiseIf` sets the mask's bits in IF. -/
theorem read_raiseIf {s : State} {m : Byte} (h : Memory.wf ioSize s.io = true) :
    Memory.read (s.raiseIf m).io 0x0F = Memory.read s.io 0x0F ||| m := read_setIo_same h

theorem read_raiseIf_other {s : State} {m : Byte} {j : Nat} (h : j ≠ 0x0F) :
    Memory.read (s.raiseIf m).io j = Memory.read s.io j := read_setIo_other h

/-! The display's two operations over IF and LY (R403). -/

theorem statIrq_wf {s : State} {k : Nat} (h : Memory.wf ioSize s.io = true) :
    Memory.wf ioSize (statIrq s k).io = true := by
  unfold statIrq
  split
  · exact raiseIf_wf h
  · exact h

theorem read_statIrq {s : State} {k : Nat} (h : Memory.wf ioSize s.io = true) :
    Memory.read (statIrq s k).io 0x0F =
      Memory.read s.io 0x0F ||| (if bitOf (Memory.read s.io 0x41) k then 0x02 else 0) := by
  unfold statIrq
  show Memory.read (if bitOf (Memory.read s.io 0x41) k = true then _ else s).io 0x0F = _
  split
  · exact read_raiseIf h
  · simp

theorem read_statIrq_other {s : State} {k j : Nat} (h : j ≠ 0x0F) :
    Memory.read (statIrq s k).io j = Memory.read s.io j := by
  unfold statIrq
  split
  · exact read_raiseIf_other h
  · rfl

/-- `statIrq` changes the I/O array and nothing else. -/
theorem statIrq_io_only (s : State) (k : Nat) : statIrq s k = { s with io := (statIrq s k).io } := by
  unfold statIrq
  split <;> rfl

theorem setLy_wf {s : State} {v : Byte} (h : Memory.wf ioSize s.io = true) :
    Memory.wf ioSize (setLy s v).io = true := by
  unfold setLy
  dsimp only
  split
  · exact raiseIf_wf (setIo_wf h (by decide))
  · exact setIo_wf h (by decide)

theorem read_setLy_if {s : State} {v : Byte} (h : Memory.wf ioSize s.io = true) :
    Memory.read (setLy s v).io 0x0F = Memory.read s.io 0x0F |||
      (if v = Memory.read s.io 0x45 ∧ bitOf (Memory.read s.io 0x41) 6 = true then 0x02 else 0) := by
  unfold setLy
  dsimp only
  have e1 : (s.setIo offLY v).lyc = Memory.read s.io 0x45 := read_setIo_other (by decide)
  have e2 : (s.setIo offLY v).statStored = Memory.read s.io 0x41 := read_setIo_other (by decide)
  rw [e1, e2]
  split
  · rw [read_raiseIf (setIo_wf h (by decide)), read_setIo_other (by decide)]
  · rw [read_setIo_other (by decide)]
    simp

theorem read_setLy_ly {s : State} {v : Byte} (h : Memory.wf ioSize s.io = true) :
    Memory.read (setLy s v).io 0x44 = v := by
  unfold setLy
  dsimp only
  split
  · rw [read_raiseIf_other (by decide)]
    exact read_setIo_same h
  · exact read_setIo_same h

theorem read_setLy_other {s : State} {v : Byte} {j : Nat} (h : j ≠ 0x0F) (k : j ≠ 0x44) :
    Memory.read (setLy s v).io j = Memory.read s.io j := by
  unfold setLy
  dsimp only
  split
  · rw [read_raiseIf_other h]
    exact read_setIo_other k
  · exact read_setIo_other k

/-- `setLy` changes the I/O array and nothing else. -/
theorem setLy_io_only (s : State) (v : Byte) : setLy s v = { s with io := (setLy s v).io } := by
  unfold setLy
  dsimp only
  split <;> rfl

/-! The timer's two ticks (R375, R377). -/

theorem divTick_wf {s : State} (h : Memory.wf ioSize s.io = true) : Memory.wf ioSize (divTick s).io = true :=
  setIo_wf h (by decide)

theorem read_divTick {s : State} (h : Memory.wf ioSize s.io = true) :
    Memory.read (divTick s).io 0x04 = Memory.read s.io 0x04 + 1 := read_setIo_same h

theorem read_divTick_other {s : State} {j : Nat} (h : j ≠ 0x04) :
    Memory.read (divTick s).io j = Memory.read s.io j := read_setIo_other h

theorem timaTick_wf {s : State} (h : Memory.wf ioSize s.io = true) : Memory.wf ioSize (timaTick s).io = true := by
  unfold timaTick
  split
  · exact raiseIf_wf (setIo_wf h (by decide))
  · exact setIo_wf h (by decide)

theorem read_timaTick {s : State} (h : Memory.wf ioSize s.io = true) :
    Memory.read (timaTick s).io 0x05 =
      if Memory.read s.io 0x05 = 0xFF then Memory.read s.io 0x06 else Memory.read s.io 0x05 + 1 := by
  unfold timaTick
  show Memory.read (if Memory.read s.io 0x05 = 0xFF then _ else _ : State).io 0x05 = _
  split
  · rw [read_raiseIf_other (by decide)]
    exact read_setIo_same h
  · exact read_setIo_same h

theorem read_timaTick_if {s : State} (h : Memory.wf ioSize s.io = true) :
    Memory.read (timaTick s).io 0x0F =
      if Memory.read s.io 0x05 = 0xFF then Memory.read s.io 0x0F ||| 0x04 else Memory.read s.io 0x0F := by
  unfold timaTick
  show Memory.read (if Memory.read s.io 0x05 = 0xFF then _ else _ : State).io 0x0F = _
  split
  · rw [read_raiseIf (setIo_wf h (by decide)), read_setIo_other (by decide)]
  · exact read_setIo_other (by decide)

theorem read_timaTick_other {s : State} {j : Nat} (h : j ≠ 0x05) (k : j ≠ 0x0F) :
    Memory.read (timaTick s).io j = Memory.read s.io j := by
  unfold timaTick
  split
  · rw [read_raiseIf_other k]
    exact read_setIo_other h
  · exact read_setIo_other h

/-! The event list. -/

/-- A push that latches no fault inserts its event. -/
theorem schedPush_ok {s : State} {t : Nat} {k : EventKind} (hm : s.modelFault = none) (ht : t < panicTime)
    (hl : s.entries.length < schedCapacity) :
    schedPush s t k = { s with entries := insertEvent ⟨t, k⟩ s.entries } := by
  unfold schedPush
  rw [hm, if_neg (by simp), if_neg (by omega), if_neg (by omega)]

/-- Insertion splits a sorted list at the event's time: everything of the same or an earlier time stays before it. -/
theorem insertEvent_split (ev : Event) {es : List Event} (h : es.Pairwise (fun x y => x.time ≤ y.time)) :
    ∃ early late, es = early ++ late ∧ insertEvent ev es = early ++ ev :: late
      ∧ (∀ e ∈ early, e.time ≤ ev.time) ∧ (∀ e ∈ late, ev.time < e.time) := by
  induction es with
  | nil => exact ⟨[], [], rfl, rfl, by simp, by simp⟩
  | cons e es ih =>
    rw [List.pairwise_cons] at h
    unfold insertEvent
    by_cases c : ev.time < e.time
    · refine ⟨[], e :: es, rfl, by simp [c], by simp, fun x hx => ?_⟩
      rcases List.mem_cons.mp hx with rfl | hx
      · exact c
      · exact Nat.lt_of_lt_of_le c (h.1 x hx)
    · obtain ⟨early, late, h1, h2, h3, h4⟩ := ih h.2
      refine ⟨e :: early, late, by rw [h1]; rfl, by rw [if_neg c, h2]; rfl, fun x hx => ?_, h4⟩
      rcases List.mem_cons.mp hx with rfl | hx
      · omega
      · exact h3 x hx

/-- An event that is not due leaves the loop of R331 where it is. -/
theorem runDue_notDue {fuel : Nat} {s : State} {ev : Event} {rest : List Event} (he : s.entries = ev :: rest)
    (h : s.now < ev.time) : runDue fuel s = s := by
  cases fuel with
  | zero => rfl
  | succ fuel =>
    unfold runDue
    rw [he]
    simp [Nat.not_le.mpr h]

/-- One turn of the loop on a due event. -/
theorem runDue_due {fuel : Nat} {s : State} {ev : Event} {rest : List Event} (he : s.entries = ev :: rest)
    (h : ev.time ≤ s.now) (hm : s.modelFault = none) :
    runDue (fuel + 1) s = runDue fuel (handleEvent ev { s with entries := rest }) := by
  conv => lhs; unfold runDue
  rw [he]
  simp [h, hm]

end Sys2Proof.Machine
end

