-- ==== Sys2Proof/Laws/Exec.lean ====
section
/-! SUPPORT. What an instruction can do, said once for all of them: `exec` never faults or refuses, and its next state is the
old one with at most two bytes stored through the bus and the CPU's own part replaced. -/

namespace Sys2Proof.Machine

/-- The bus writes of a list, in order. -/
def State.stores (s : State) (ws : List (Word × Byte)) : State := ws.foldl (fun t w => busWrite t w.1 w.2) s

@[simp] theorem State.stores_nil (s : State) : s.stores [] = s := rfl
@[simp] theorem State.stores_cons (s : State) (w : Word × Byte) (ws : List (Word × Byte)) :
    s.stores (w :: ws) = (busWrite s w.1 w.2).stores ws := rfl

theorem stores_sameOffBus (s : State) (ws : List (Word × Byte)) : SameOffBus s (s.stores ws) := by
  induction ws generalizing s with
  | nil => exact SameOffBus.refl s
  | cons w ws ih => exact SameOffBus.trans (busWrite_sameOffBus s w.1 w.2) (ih _)

theorem stores_canonical {s : State} (h : MemoriesCanonical s) (ws : List (Word × Byte)) :
    MemoriesCanonical (s.stores ws) := by
  induction ws generalizing s with
  | nil => exact h
  | cons w ws ih => exact ih (busWrite_canonical h)

theorem stores_withCpu (s : State) (r : CpuRegs) (ws : List (Word × Byte)) :
    (s.withCpu r).stores ws = (s.stores ws).withCpu r := by
  induction ws generalizing s with
  | nil => rfl
  | cons w ws ih => rw [State.stores_cons, busWrite_withCpu, ih, State.stores_cons]

/-- The answer is a next state: `s` after at most two byte stores, with the CPU's part replaced. -/
def Shape (s : State) (x : Result) : Prop :=
  ∃ (ws : List (Word × Byte)) (r : CpuRegs), ws.length ≤ 2 ∧ x = .next ((s.stores ws).withCpu r)

/-- `t` is `s` with only the CPU's part replaced. -/
def CpuOnly (s t : State) : Prop := t = s.withCpu t.cpu

theorem CpuOnly.refl (s : State) : CpuOnly s s := rfl

theorem CpuOnly.trans {s t u : State} (h : CpuOnly s t) (k : CpuOnly t u) : CpuOnly s u := by
  unfold CpuOnly at *
  rw [k, h]
  rfl

theorem CpuOnly.advance (s : State) (n k : Nat) : CpuOnly s (s.advance n k) := rfl
theorem CpuOnly.jump (s : State) (w : Word) : CpuOnly s (s.jump w) := rfl
theorem CpuOnly.popped (s : State) : CpuOnly s s.popped := rfl
theorem CpuOnly.setFlags (s : State) (z n h c : Bool) : CpuOnly s (s.setFlags z n h c) := rfl
theorem CpuOnly.setHL (s : State) (w : Word) : CpuOnly s (s.setHL w) := rfl
theorem CpuOnly.setReg (s : State) (r : Reg8) (v : Byte) : CpuOnly s (s.setReg r v) := by cases r <;> rfl
theorem CpuOnly.setPair (s : State) (p : RegPair) (w : Word) : CpuOnly s (s.setPair p w) := by cases p <;> rfl
theorem CpuOnly.setStackPair (s : State) (p : StackPair) (w : Word) : CpuOnly s (s.setStackPair p w) := by
  cases p <;> rfl
theorem CpuOnly.movePointer (s : State) (p : Pointer) : CpuOnly s (s.movePointer p) := by cases p <;> rfl
theorem CpuOnly.aluOn (op : AluOp) (v : Byte) (s : State) : CpuOnly s (aluOn op v s) := by cases op <;> rfl

theorem CpuOnly.shape {s t : State} (h : CpuOnly s t) : Shape s (.next t) := ⟨[], t.cpu, by decide, congrArg _ h⟩

/-- One store between two changes of the CPU's part. -/
theorem shape_store {s t u : State} {a : Word} {v : Byte} (h : CpuOnly s t) (k : CpuOnly (t.memWrite a v) u) :
    Shape s (.next u) := by
  refine ⟨[(a, v)], u.cpu, by simp, congrArg _ ?_⟩
  unfold CpuOnly at *
  rw [k, h, State.memWrite, busWrite_withCpu]
  rfl

/-- A two-byte store between two changes of the CPU's part. -/
theorem shape_store16 {s t u : State} {a v : Word} (h : CpuOnly s t) (k : CpuOnly (t.memWrite16 a v) u) :
    Shape s (.next u) := by
  refine ⟨[(a, lowByte v), (a + 1, highByte v)], u.cpu, by simp, congrArg _ ?_⟩
  unfold CpuOnly at *
  rw [k, h, State.memWrite16, busWrite_withCpu, busWrite_withCpu]
  rfl

/-! The families. -/

theorem shape_ldReg (rd rs : Reg8) (s : State) : Shape s (ldReg rd rs s) :=
  ((CpuOnly.advance s 1 4).trans (CpuOnly.setReg _ rd _)).shape
theorem shape_ldImm (rd : Reg8) (n : Byte) (s : State) : Shape s (ldImm rd n s) :=
  ((CpuOnly.advance s 2 8).trans (CpuOnly.setReg _ rd n)).shape
theorem shape_ldFromHL (rd : Reg8) (s : State) : Shape s (ldFromHL rd s) :=
  ((CpuOnly.advance s 1 8).trans (CpuOnly.setReg _ rd _)).shape
theorem shape_ldToHL (rs : Reg8) (s : State) : Shape s (ldToHL rs s) :=
  shape_store (CpuOnly.advance s 1 8) (CpuOnly.refl _)
theorem shape_ld_atHL_d8 (n : Byte) (s : State) : Shape s (exec_ld_atHL_d8 n s) :=
  shape_store (CpuOnly.advance s 2 12) (CpuOnly.refl _)
theorem shape_ldAFrom (p : Pointer) (s : State) : Shape s (ldAFrom p s) :=
  (((CpuOnly.advance s 1 8).trans (CpuOnly.setReg _ .a _)).trans (CpuOnly.movePointer _ p)).shape
theorem shape_ldATo (p : Pointer) (s : State) : Shape s (ldATo p s) :=
  shape_store (CpuOnly.advance s 1 8) (CpuOnly.movePointer _ p)
theorem shape_ldAAbs (a : Word) (n k : Nat) (s : State) : Shape s (ldAAbs a n k s) :=
  ((CpuOnly.advance s n k).trans (CpuOnly.setReg _ .a _)).shape
theorem shape_stAAbs (a : Word) (n k : Nat) (s : State) : Shape s (stAAbs a n k s) :=
  shape_store (CpuOnly.advance s n k) (CpuOnly.refl _)
theorem shape_ldPairImm (p : RegPair) (nn : Word) (s : State) : Shape s (ldPairImm p nn s) :=
  ((CpuOnly.advance s 3 12).trans (CpuOnly.setPair _ p nn)).shape
theorem shape_ld_atA16_sp (nn : Word) (s : State) : Shape s (exec_ld_atA16_sp nn s) :=
  shape_store16 (CpuOnly.advance s 3 20) (CpuOnly.refl _)
theorem shape_ld_sp_hl (s : State) : Shape s (exec_ld_sp_hl s) := CpuOnly.shape rfl
theorem shape_pushPair (p : StackPair) (s : State) : Shape s (pushPair p s) :=
  shape_store16 (t := { s.advance 1 16 with sp := (s.advance 1 16).sp - 2 }) rfl (CpuOnly.refl _)
theorem shape_popPair (p : StackPair) (s : State) : Shape s (popPair p s) :=
  (((CpuOnly.advance s 1 12).trans (CpuOnly.popped _)).trans (CpuOnly.setStackPair _ p _)).shape
theorem shape_ld_hl_sp_e8 (e : Byte) (s : State) : Shape s (exec_ld_hl_sp_e8 e s) :=
  (((CpuOnly.advance s 2 12).trans (CpuOnly.setHL _ _)).trans (CpuOnly.setFlags _ _ _ _ _)).shape
theorem shape_aluReg (op : AluOp) (r : Reg8) (s : State) : Shape s (aluReg op r s) :=
  ((CpuOnly.advance s 1 4).trans (CpuOnly.aluOn op _ _)).shape
theorem shape_aluHL (op : AluOp) (s : State) : Shape s (aluHL op s) :=
  ((CpuOnly.advance s 1 8).trans (CpuOnly.aluOn op _ _)).shape
theorem shape_aluImm (op : AluOp) (n : Byte) (s : State) : Shape s (aluImm op n s) :=
  ((CpuOnly.advance s 2 8).trans (CpuOnly.aluOn op _ _)).shape
theorem shape_incReg (r : Reg8) (s : State) : Shape s (incReg r s) :=
  (((CpuOnly.advance s 1 4).trans (CpuOnly.setReg _ r _)).trans (CpuOnly.setFlags _ _ _ _ _)).shape
theorem shape_decReg (r : Reg8) (s : State) : Shape s (decReg r s) :=
  (((CpuOnly.advance s 1 4).trans (CpuOnly.setReg _ r _)).trans (CpuOnly.setFlags _ _ _ _ _)).shape
theorem shape_inc_atHL (s : State) : Shape s (exec_inc_atHL s) :=
  shape_store (CpuOnly.advance s 1 12) (CpuOnly.setFlags _ _ _ _ _)
theorem shape_dec_atHL (s : State) : Shape s (exec_dec_atHL s) :=
  shape_store (CpuOnly.advance s 1 12) (CpuOnly.setFlags _ _ _ _ _)
theorem shape_daa (s : State) : Shape s (exec_daa s) := CpuOnly.shape rfl
theorem shape_cpl (s : State) : Shape s (exec_cpl s) := CpuOnly.shape rfl
theorem shape_scf (s : State) : Shape s (exec_scf s) := CpuOnly.shape rfl
theorem shape_ccf (s : State) : Shape s (exec_ccf s) := CpuOnly.shape rfl
theorem shape_addHLPair (p : RegPair) (s : State) : Shape s (addHLPair p s) :=
  (((CpuOnly.advance s 1 8).trans (CpuOnly.setHL _ _)).trans (CpuOnly.setFlags _ _ _ _ _)).shape
theorem shape_incPair (p : RegPair) (s : State) : Shape s (incPair p s) :=
  ((CpuOnly.advance s 1 8).trans (CpuOnly.setPair _ p _)).shape
theorem shape_decPair (p : RegPair) (s : State) : Shape s (decPair p s) :=
  ((CpuOnly.advance s 1 8).trans (CpuOnly.setPair _ p _)).shape
theorem shape_add_sp_e8 (e : Byte) (s : State) : Shape s (exec_add_sp_e8 e s) := CpuOnly.shape rfl
theorem shape_rotateA (x : Byte × Bool) (s : State) : Shape s (rotateA x s) := CpuOnly.shape rfl
theorem shape_rotateReg (op : RotOp) (r : Reg8) (s : State) : Shape s (rotateReg op r s) :=
  (((CpuOnly.advance s 2 8).trans (CpuOnly.setReg _ r _)).trans (CpuOnly.setFlags _ _ _ _ _)).shape
theorem shape_rotateHL (op : RotOp) (s : State) : Shape s (rotateHL op s) :=
  shape_store (CpuOnly.advance s 2 16) (CpuOnly.setFlags _ _ _ _ _)
theorem shape_bitTestReg (k : Bit3) (r : Reg8) (s : State) : Shape s (bitTestReg k r s) := CpuOnly.shape rfl
theorem shape_bitTestHL (k : Bit3) (s : State) : Shape s (bitTestHL k s) := CpuOnly.shape rfl
theorem shape_bitResetReg (k : Bit3) (r : Reg8) (s : State) : Shape s (bitResetReg k r s) :=
  ((CpuOnly.advance s 2 8).trans (CpuOnly.setReg _ r _)).shape
theorem shape_bitResetHL (k : Bit3) (s : State) : Shape s (bitResetHL k s) :=
  shape_store (CpuOnly.advance s 2 16) (CpuOnly.refl _)
theorem shape_bitSetReg (k : Bit3) (r : Reg8) (s : State) : Shape s (bitSetReg k r s) :=
  ((CpuOnly.advance s 2 8).trans (CpuOnly.setReg _ r _)).shape
theorem shape_bitSetHL (k : Bit3) (s : State) : Shape s (bitSetHL k s) :=
  shape_store (CpuOnly.advance s 2 16) (CpuOnly.refl _)
theorem shape_jp_a16 (nn : Word) (s : State) : Shape s (exec_jp_a16 nn s) := CpuOnly.shape rfl
theorem shape_jp_hl (s : State) : Shape s (exec_jp_hl s) := CpuOnly.shape rfl
theorem shape_jr_e8 (e : Byte) (s : State) : Shape s (exec_jr_e8 e s) := CpuOnly.shape rfl
theorem shape_jpCond (cc : Cond) (nn : Word) (s : State) : Shape s (jpCond cc nn s) := by
  unfold jpCond
  split <;> exact CpuOnly.shape rfl
theorem shape_jrCond (cc : Cond) (e : Byte) (s : State) : Shape s (jrCond cc e s) := by
  unfold jrCond
  split <;> exact CpuOnly.shape rfl
theorem shape_callTo (w : Word) (n k : Nat) (s : State) : Shape s (.next (callTo w n k s)) :=
  shape_store16 (t := { s.advance n k with sp := (s.advance n k).sp - 2 }) rfl (CpuOnly.jump _ w)
theorem shape_call_a16 (nn : Word) (s : State) : Shape s (exec_call_a16 nn s) := shape_callTo nn 3 24 s
theorem shape_callCond (cc : Cond) (nn : Word) (s : State) : Shape s (callCond cc nn s) := by
  unfold callCond
  split
  · exact shape_callTo nn 3 24 s
  · exact CpuOnly.shape rfl
theorem shape_ret (s : State) : Shape s (exec_ret s) := CpuOnly.shape rfl
theorem shape_retCond (cc : Cond) (s : State) : Shape s (retCond cc s) := by
  unfold retCond
  split <;> exact CpuOnly.shape rfl
theorem shape_reti (s : State) : Shape s (exec_reti s) := CpuOnly.shape rfl
theorem shape_rstTo (k : Bit3) (s : State) : Shape s (rstTo k s) := shape_callTo _ 1 16 s
theorem shape_nop (s : State) : Shape s (exec_nop s) := CpuOnly.shape rfl
theorem shape_halt (s : State) : Shape s (exec_halt s) := CpuOnly.shape rfl
theorem shape_fatal (b : Byte) (s : State) : Shape s (.next (raiseFatal b s)) := CpuOnly.shape rfl
theorem shape_stop (pad : Byte) (s : State) : Shape s (exec_stop pad s) := by
  unfold exec_stop
  split <;> exact CpuOnly.shape rfl
theorem shape_di (s : State) : Shape s (exec_di s) := CpuOnly.shape rfl
theorem shape_ei (s : State) : Shape s (exec_ei s) := by
  unfold exec_ei
  split <;> exact CpuOnly.shape rfl

/-! What an ordinary instruction does to the control bits and the cost. -/

/-- The answer is a next state with `ime`, `halted`, the fatal record and `ei_pending` as before, at a cost of 4 to 24 (R332). -/
def Ordinary (s : State) (x : Result) : Prop :=
  ∃ t, x = .next t ∧ t.ime = s.ime ∧ t.halted = s.halted ∧ t.fatal = s.fatal ∧ t.eiPending = s.eiPending
    ∧ 4 ≤ t.cycles ∧ t.cycles ≤ 24

/-- HALT, STOP, DI, EI, RETI (R316) and the illegal bytes: the instructions that are not ordinary. -/
def Instr.isControl : Instr → Bool
  | .halt | .stop _ | .di | .ei | .reti => true
  | i => !i.WellFormed

theorem ordinary_ldReg (rd rs : Reg8) (s : State) : Ordinary s (ldReg rd rs s) :=
  ⟨_, rfl, by simp⟩
theorem ordinary_ldImm (rd : Reg8) (n : Byte) (s : State) : Ordinary s (ldImm rd n s) :=
  ⟨_, rfl, by simp⟩
theorem ordinary_ldFromHL (rd : Reg8) (s : State) : Ordinary s (ldFromHL rd s) :=
  ⟨_, rfl, by simp⟩
theorem ordinary_ldToHL (rs : Reg8) (s : State) : Ordinary s (ldToHL rs s) :=
  ⟨_, rfl, by simp [State.memWrite]⟩
theorem ordinary_ld_atHL_d8 (n : Byte) (s : State) : Ordinary s (exec_ld_atHL_d8 n s) :=
  ⟨_, rfl, by simp [State.memWrite]⟩
theorem ordinary_ldAFrom (p : Pointer) (s : State) : Ordinary s (ldAFrom p s) :=
  ⟨_, rfl, by cases p <;> simp [State.movePointer]⟩
theorem ordinary_ldATo (p : Pointer) (s : State) : Ordinary s (ldATo p s) :=
  ⟨_, rfl, by cases p <;> simp [State.movePointer, State.memWrite]⟩
theorem ordinary_ldAAbs (a : Word) (n k : Nat) (h : 4 ≤ k ∧ k ≤ 24) (s : State) : Ordinary s (ldAAbs a n k s) :=
  ⟨_, rfl, by simp [h]⟩
theorem ordinary_stAAbs (a : Word) (n k : Nat) (h : 4 ≤ k ∧ k ≤ 24) (s : State) : Ordinary s (stAAbs a n k s) :=
  ⟨_, rfl, by simp [State.memWrite, h]⟩
theorem ordinary_ldPairImm (p : RegPair) (nn : Word) (s : State) : Ordinary s (ldPairImm p nn s) :=
  ⟨_, rfl, by cases p <;> simp [State.setPair]⟩
theorem ordinary_ld_atA16_sp (nn : Word) (s : State) : Ordinary s (exec_ld_atA16_sp nn s) :=
  ⟨_, rfl, by simp [State.memWrite16]⟩
theorem ordinary_ld_sp_hl  (s : State) : Ordinary s (exec_ld_sp_hl s) :=
  ⟨_, rfl, by simp⟩
theorem ordinary_pushPair (p : StackPair) (s : State) : Ordinary s (pushPair p s) :=
  ⟨_, rfl, by simp [State.push16, State.memWrite16]⟩
theorem ordinary_popPair (p : StackPair) (s : State) : Ordinary s (popPair p s) :=
  ⟨_, rfl, by cases p <;> simp [State.setStackPair]⟩
theorem ordinary_ld_hl_sp_e8 (e : Byte) (s : State) : Ordinary s (exec_ld_hl_sp_e8 e s) :=
  ⟨_, rfl, by simp⟩
theorem ordinary_aluReg (op : AluOp) (r : Reg8) (s : State) : Ordinary s (aluReg op r s) :=
  ⟨_, rfl, by cases op <;> simp [aluOn, State.setSum, State.setLogic]⟩
theorem ordinary_aluHL (op : AluOp) (s : State) : Ordinary s (aluHL op s) :=
  ⟨_, rfl, by cases op <;> simp [aluOn, State.setSum, State.setLogic]⟩
theorem ordinary_aluImm (op : AluOp) (n : Byte) (s : State) : Ordinary s (aluImm op n s) :=
  ⟨_, rfl, by cases op <;> simp [aluOn, State.setSum, State.setLogic]⟩
theorem ordinary_incReg (r : Reg8) (s : State) : Ordinary s (incReg r s) :=
  ⟨_, rfl, by simp [State.setIncFlags]⟩
theorem ordinary_decReg (r : Reg8) (s : State) : Ordinary s (decReg r s) :=
  ⟨_, rfl, by simp [State.setDecFlags]⟩
theorem ordinary_inc_atHL  (s : State) : Ordinary s (exec_inc_atHL s) :=
  ⟨_, rfl, by simp [State.setIncFlags, State.memWrite]⟩
theorem ordinary_dec_atHL  (s : State) : Ordinary s (exec_dec_atHL s) :=
  ⟨_, rfl, by simp [State.setDecFlags, State.memWrite]⟩
theorem ordinary_daa  (s : State) : Ordinary s (exec_daa s) :=
  ⟨_, rfl, by simp⟩
theorem ordinary_cpl  (s : State) : Ordinary s (exec_cpl s) :=
  ⟨_, rfl, by simp⟩
theorem ordinary_scf  (s : State) : Ordinary s (exec_scf s) :=
  ⟨_, rfl, by simp⟩
theorem ordinary_ccf  (s : State) : Ordinary s (exec_ccf s) :=
  ⟨_, rfl, by simp⟩
theorem ordinary_addHLPair (p : RegPair) (s : State) : Ordinary s (addHLPair p s) :=
  ⟨_, rfl, by simp⟩
theorem ordinary_incPair (p : RegPair) (s : State) : Ordinary s (incPair p s) :=
  ⟨_, rfl, by cases p <;> simp [State.setPair]⟩
theorem ordinary_decPair (p : RegPair) (s : State) : Ordinary s (decPair p s) :=
  ⟨_, rfl, by cases p <;> simp [State.setPair]⟩
theorem ordinary_add_sp_e8 (e : Byte) (s : State) : Ordinary s (exec_add_sp_e8 e s) :=
  ⟨_, rfl, by simp⟩
theorem ordinary_rotateA (x : Byte × Bool) (s : State) : Ordinary s (rotateA x s) :=
  ⟨_, rfl, by simp⟩
theorem ordinary_rotateReg (op : RotOp) (r : Reg8) (s : State) : Ordinary s (rotateReg op r s) :=
  ⟨_, rfl, by simp⟩
theorem ordinary_rotateHL (op : RotOp) (s : State) : Ordinary s (rotateHL op s) :=
  ⟨_, rfl, by simp [State.memWrite]⟩
theorem ordinary_bitTestReg (k : Bit3) (r : Reg8) (s : State) : Ordinary s (bitTestReg k r s) :=
  ⟨_, rfl, by simp [State.setBitFlags]⟩
theorem ordinary_bitTestHL (k : Bit3) (s : State) : Ordinary s (bitTestHL k s) :=
  ⟨_, rfl, by simp [State.setBitFlags]⟩
theorem ordinary_bitResetReg (k : Bit3) (r : Reg8) (s : State) : Ordinary s (bitResetReg k r s) :=
  ⟨_, rfl, by simp⟩
theorem ordinary_bitResetHL (k : Bit3) (s : State) : Ordinary s (bitResetHL k s) :=
  ⟨_, rfl, by simp [State.memWrite]⟩
theorem ordinary_bitSetReg (k : Bit3) (r : Reg8) (s : State) : Ordinary s (bitSetReg k r s) :=
  ⟨_, rfl, by simp⟩
theorem ordinary_bitSetHL (k : Bit3) (s : State) : Ordinary s (bitSetHL k s) :=
  ⟨_, rfl, by simp [State.memWrite]⟩
theorem ordinary_jp_a16 (nn : Word) (s : State) : Ordinary s (exec_jp_a16 nn s) :=
  ⟨_, rfl, by simp⟩
theorem ordinary_jp_hl  (s : State) : Ordinary s (exec_jp_hl s) :=
  ⟨_, rfl, by simp⟩
theorem ordinary_jr_e8 (e : Byte) (s : State) : Ordinary s (exec_jr_e8 e s) :=
  ⟨_, rfl, by simp⟩
theorem ordinary_jpCond (cc : Cond) (nn : Word) (s : State) : Ordinary s (jpCond cc nn s) := by
  unfold jpCond
  split <;> exact ⟨_, rfl, by simp⟩
theorem ordinary_jrCond (cc : Cond) (e : Byte) (s : State) : Ordinary s (jrCond cc e s) := by
  unfold jrCond
  split <;> exact ⟨_, rfl, by simp⟩
theorem ordinary_callTo (w : Word) (n k : Nat) (h : 4 ≤ k ∧ k ≤ 24) (s : State) : Ordinary s (.next (callTo w n k s)) :=
  ⟨_, rfl, by simp [callTo, State.push16, State.memWrite16, h]⟩
theorem ordinary_call_a16 (nn : Word) (s : State) : Ordinary s (exec_call_a16 nn s) :=
  ordinary_callTo nn 3 24 (by decide) s
theorem ordinary_callCond (cc : Cond) (nn : Word) (s : State) : Ordinary s (callCond cc nn s) := by
  unfold callCond
  split
  · exact ordinary_callTo nn 3 24 (by decide) s
  · exact ⟨_, rfl, by simp⟩
theorem ordinary_ret (s : State) : Ordinary s (exec_ret s) := ⟨_, rfl, by simp [returnFromCall]⟩
theorem ordinary_retCond (cc : Cond) (s : State) : Ordinary s (retCond cc s) := by
  unfold retCond
  split <;> exact ⟨_, rfl, by simp [returnFromCall]⟩
theorem ordinary_rstTo (k : Bit3) (s : State) : Ordinary s (rstTo k s) := ordinary_callTo _ 1 16 (by decide) s
theorem ordinary_nop (s : State) : Ordinary s (exec_nop s) := ⟨_, rfl, by simp⟩

/-- Whatever the instruction, `exec` answers a next state, and that state is the old one with at most two bytes stored
through the bus and the CPU's own part replaced. -/
theorem exec_shape (i : Instr) (s : State) : Shape s (exec i s) :=
  match i with
  | .nop => shape_nop s
  | .ld_bc_d16 nn => shape_ldPairImm .bc nn s
  | .ld_atBC_a => shape_ldATo .bc s
  | .inc_bc => shape_incPair .bc s
  | .inc_b => shape_incReg .b s
  | .dec_b => shape_decReg .b s
  | .ld_b_d8 n => shape_ldImm .b n s
  | .rlca => shape_rotateA (rlc8 s.a) s
  | .ld_atA16_sp nn => shape_ld_atA16_sp nn s
  | .add_hl_bc => shape_addHLPair .bc s
  | .ld_a_atBC => shape_ldAFrom .bc s
  | .dec_bc => shape_decPair .bc s
  | .inc_c => shape_incReg .c s
  | .dec_c => shape_decReg .c s
  | .ld_c_d8 n => shape_ldImm .c n s
  | .rrca => shape_rotateA (rrc8 s.a) s
  | .stop pad => shape_stop pad s
  | .ld_de_d16 nn => shape_ldPairImm .de nn s
  | .ld_atDE_a => shape_ldATo .de s
  | .inc_de => shape_incPair .de s
  | .inc_d => shape_incReg .d s
  | .dec_d => shape_decReg .d s
  | .ld_d_d8 n => shape_ldImm .d n s
  | .rla => shape_rotateA (rl8 s.a s.flagC) s
  | .jr_e8 e => shape_jr_e8 e s
  | .add_hl_de => shape_addHLPair .de s
  | .ld_a_atDE => shape_ldAFrom .de s
  | .dec_de => shape_decPair .de s
  | .inc_e => shape_incReg .e s
  | .dec_e => shape_decReg .e s
  | .ld_e_d8 n => shape_ldImm .e n s
  | .rra => shape_rotateA (rr8 s.a s.flagC) s
  | .jr_nz_e8 e => shape_jrCond .nz e s
  | .ld_hl_d16 nn => shape_ldPairImm .hl nn s
  | .ld_atHLinc_a => shape_ldATo .hlInc s
  | .inc_hl => shape_incPair .hl s
  | .inc_h => shape_incReg .h s
  | .dec_h => shape_decReg .h s
  | .ld_h_d8 n => shape_ldImm .h n s
  | .daa => shape_daa s
  | .jr_z_e8 e => shape_jrCond .z e s
  | .add_hl_hl => shape_addHLPair .hl s
  | .ld_a_atHLinc => shape_ldAFrom .hlInc s
  | .dec_hl => shape_decPair .hl s
  | .inc_l => shape_incReg .l s
  | .dec_l => shape_decReg .l s
  | .ld_l_d8 n => shape_ldImm .l n s
  | .cpl => shape_cpl s
  | .jr_nc_e8 e => shape_jrCond .nc e s
  | .ld_sp_d16 nn => shape_ldPairImm .sp nn s
  | .ld_atHLdec_a => shape_ldATo .hlDec s
  | .inc_sp => shape_incPair .sp s
  | .inc_atHL => shape_inc_atHL s
  | .dec_atHL => shape_dec_atHL s
  | .ld_atHL_d8 n => shape_ld_atHL_d8 n s
  | .scf => shape_scf s
  | .jr_c_e8 e => shape_jrCond .c e s
  | .add_hl_sp => shape_addHLPair .sp s
  | .ld_a_atHLdec => shape_ldAFrom .hlDec s
  | .dec_sp => shape_decPair .sp s
  | .inc_a => shape_incReg .a s
  | .dec_a => shape_decReg .a s
  | .ld_a_d8 n => shape_ldImm .a n s
  | .ccf => shape_ccf s
  | .ld_b_b => shape_ldReg .b .b s
  | .ld_b_c => shape_ldReg .b .c s
  | .ld_b_d => shape_ldReg .b .d s
  | .ld_b_e => shape_ldReg .b .e s
  | .ld_b_h => shape_ldReg .b .h s
  | .ld_b_l => shape_ldReg .b .l s
  | .ld_b_atHL => shape_ldFromHL .b s
  | .ld_b_a => shape_ldReg .b .a s
  | .ld_c_b => shape_ldReg .c .b s
  | .ld_c_c => shape_ldReg .c .c s
  | .ld_c_d => shape_ldReg .c .d s
  | .ld_c_e => shape_ldReg .c .e s
  | .ld_c_h => shape_ldReg .c .h s
  | .ld_c_l => shape_ldReg .c .l s
  | .ld_c_atHL => shape_ldFromHL .c s
  | .ld_c_a => shape_ldReg .c .a s
  | .ld_d_b => shape_ldReg .d .b s
  | .ld_d_c => shape_ldReg .d .c s
  | .ld_d_d => shape_ldReg .d .d s
  | .ld_d_e => shape_ldReg .d .e s
  | .ld_d_h => shape_ldReg .d .h s
  | .ld_d_l => shape_ldReg .d .l s
  | .ld_d_atHL => shape_ldFromHL .d s
  | .ld_d_a => shape_ldReg .d .a s
  | .ld_e_b => shape_ldReg .e .b s
  | .ld_e_c => shape_ldReg .e .c s
  | .ld_e_d => shape_ldReg .e .d s
  | .ld_e_e => shape_ldReg .e .e s
  | .ld_e_h => shape_ldReg .e .h s
  | .ld_e_l => shape_ldReg .e .l s
  | .ld_e_atHL => shape_ldFromHL .e s
  | .ld_e_a => shape_ldReg .e .a s
  | .ld_h_b => shape_ldReg .h .b s
  | .ld_h_c => shape_ldReg .h .c s
  | .ld_h_d => shape_ldReg .h .d s
  | .ld_h_e => shape_ldReg .h .e s
  | .ld_h_h => shape_ldReg .h .h s
  | .ld_h_l => shape_ldReg .h .l s
  | .ld_h_atHL => shape_ldFromHL .h s
  | .ld_h_a => shape_ldReg .h .a s
  | .ld_l_b => shape_ldReg .l .b s
  | .ld_l_c => shape_ldReg .l .c s
  | .ld_l_d => shape_ldReg .l .d s
  | .ld_l_e => shape_ldReg .l .e s
  | .ld_l_h => shape_ldReg .l .h s
  | .ld_l_l => shape_ldReg .l .l s
  | .ld_l_atHL => shape_ldFromHL .l s
  | .ld_l_a => shape_ldReg .l .a s
  | .ld_atHL_b => shape_ldToHL .b s
  | .ld_atHL_c => shape_ldToHL .c s
  | .ld_atHL_d => shape_ldToHL .d s
  | .ld_atHL_e => shape_ldToHL .e s
  | .ld_atHL_h => shape_ldToHL .h s
  | .ld_atHL_l => shape_ldToHL .l s
  | .halt => shape_halt s
  | .ld_atHL_a => shape_ldToHL .a s
  | .ld_a_b => shape_ldReg .a .b s
  | .ld_a_c => shape_ldReg .a .c s
  | .ld_a_d => shape_ldReg .a .d s
  | .ld_a_e => shape_ldReg .a .e s
  | .ld_a_h => shape_ldReg .a .h s
  | .ld_a_l => shape_ldReg .a .l s
  | .ld_a_atHL => shape_ldFromHL .a s
  | .ld_a_a => shape_ldReg .a .a s
  | .add_a_b => shape_aluReg .add .b s
  | .add_a_c => shape_aluReg .add .c s
  | .add_a_d => shape_aluReg .add .d s
  | .add_a_e => shape_aluReg .add .e s
  | .add_a_h => shape_aluReg .add .h s
  | .add_a_l => shape_aluReg .add .l s
  | .add_a_atHL => shape_aluHL .add s
  | .add_a_a => shape_aluReg .add .a s
  | .adc_a_b => shape_aluReg .adc .b s
  | .adc_a_c => shape_aluReg .adc .c s
  | .adc_a_d => shape_aluReg .adc .d s
  | .adc_a_e => shape_aluReg .adc .e s
  | .adc_a_h => shape_aluReg .adc .h s
  | .adc_a_l => shape_aluReg .adc .l s
  | .adc_a_atHL => shape_aluHL .adc s
  | .adc_a_a => shape_aluReg .adc .a s
  | .sub_b => shape_aluReg .sub .b s
  | .sub_c => shape_aluReg .sub .c s
  | .sub_d => shape_aluReg .sub .d s
  | .sub_e => shape_aluReg .sub .e s
  | .sub_h => shape_aluReg .sub .h s
  | .sub_l => shape_aluReg .sub .l s
  | .sub_atHL => shape_aluHL .sub s
  | .sub_a => shape_aluReg .sub .a s
  | .sbc_a_b => shape_aluReg .sbc .b s
  | .sbc_a_c => shape_aluReg .sbc .c s
  | .sbc_a_d => shape_aluReg .sbc .d s
  | .sbc_a_e => shape_aluReg .sbc .e s
  | .sbc_a_h => shape_aluReg .sbc .h s
  | .sbc_a_l => shape_aluReg .sbc .l s
  | .sbc_a_atHL => shape_aluHL .sbc s
  | .sbc_a_a => shape_aluReg .sbc .a s
  | .and_b => shape_aluReg .and .b s
  | .and_c => shape_aluReg .and .c s
  | .and_d => shape_aluReg .and .d s
  | .and_e => shape_aluReg .and .e s
  | .and_h => shape_aluReg .and .h s
  | .and_l => shape_aluReg .and .l s
  | .and_atHL => shape_aluHL .and s
  | .and_a => shape_aluReg .and .a s
  | .xor_b => shape_aluReg .xor .b s
  | .xor_c => shape_aluReg .xor .c s
  | .xor_d => shape_aluReg .xor .d s
  | .xor_e => shape_aluReg .xor .e s
  | .xor_h => shape_aluReg .xor .h s
  | .xor_l => shape_aluReg .xor .l s
  | .xor_atHL => shape_aluHL .xor s
  | .xor_a => shape_aluReg .xor .a s
  | .or_b => shape_aluReg .or .b s
  | .or_c => shape_aluReg .or .c s
  | .or_d => shape_aluReg .or .d s
  | .or_e => shape_aluReg .or .e s
  | .or_h => shape_aluReg .or .h s
  | .or_l => shape_aluReg .or .l s
  | .or_atHL => shape_aluHL .or s
  | .or_a => shape_aluReg .or .a s
  | .cp_b => shape_aluReg .cp .b s
  | .cp_c => shape_aluReg .cp .c s
  | .cp_d => shape_aluReg .cp .d s
  | .cp_e => shape_aluReg .cp .e s
  | .cp_h => shape_aluReg .cp .h s
  | .cp_l => shape_aluReg .cp .l s
  | .cp_atHL => shape_aluHL .cp s
  | .cp_a => shape_aluReg .cp .a s
  | .ret_nz => shape_retCond .nz s
  | .pop_bc => shape_popPair .bc s
  | .jp_nz_a16 nn => shape_jpCond .nz nn s
  | .jp_a16 nn => shape_jp_a16 nn s
  | .call_nz_a16 nn => shape_callCond .nz nn s
  | .push_bc => shape_pushPair .bc s
  | .add_a_d8 n => shape_aluImm .add n s
  | .rst_00 => shape_rstTo .n0 s
  | .ret_z => shape_retCond .z s
  | .ret => shape_ret s
  | .jp_z_a16 nn => shape_jpCond .z nn s
  | .call_z_a16 nn => shape_callCond .z nn s
  | .call_a16 nn => shape_call_a16 nn s
  | .adc_a_d8 n => shape_aluImm .adc n s
  | .rst_08 => shape_rstTo .n1 s
  | .ret_nc => shape_retCond .nc s
  | .pop_de => shape_popPair .de s
  | .jp_nc_a16 nn => shape_jpCond .nc nn s
  | .illegal_D3 => shape_fatal _ s
  | .call_nc_a16 nn => shape_callCond .nc nn s
  | .push_de => shape_pushPair .de s
  | .sub_d8 n => shape_aluImm .sub n s
  | .rst_10 => shape_rstTo .n2 s
  | .ret_c => shape_retCond .c s
  | .reti => shape_reti s
  | .jp_c_a16 nn => shape_jpCond .c nn s
  | .illegal_DB => shape_fatal _ s
  | .call_c_a16 nn => shape_callCond .c nn s
  | .illegal_DD => shape_fatal _ s
  | .sbc_a_d8 n => shape_aluImm .sbc n s
  | .rst_18 => shape_rstTo .n3 s
  | .ldh_atA8_a n => shape_stAAbs (highPage n) 2 12 s
  | .pop_hl => shape_popPair .hl s
  | .ldh_atC_a => shape_stAAbs (highPage s.c) 1 8 s
  | .illegal_E3 => shape_fatal _ s
  | .illegal_E4 => shape_fatal _ s
  | .push_hl => shape_pushPair .hl s
  | .and_d8 n => shape_aluImm .and n s
  | .rst_20 => shape_rstTo .n4 s
  | .add_sp_e8 e => shape_add_sp_e8 e s
  | .jp_hl => shape_jp_hl s
  | .ld_atA16_a nn => shape_stAAbs nn 3 16 s
  | .illegal_EB => shape_fatal _ s
  | .illegal_EC => shape_fatal _ s
  | .illegal_ED => shape_fatal _ s
  | .xor_d8 n => shape_aluImm .xor n s
  | .rst_28 => shape_rstTo .n5 s
  | .ldh_a_atA8 n => shape_ldAAbs (highPage n) 2 12 s
  | .pop_af => shape_popPair .af s
  | .ldh_a_atC => shape_ldAAbs (highPage s.c) 1 8 s
  | .di => shape_di s
  | .illegal_F4 => shape_fatal _ s
  | .push_af => shape_pushPair .af s
  | .or_d8 n => shape_aluImm .or n s
  | .rst_30 => shape_rstTo .n6 s
  | .ld_hl_sp_e8 e => shape_ld_hl_sp_e8 e s
  | .ld_sp_hl => shape_ld_sp_hl s
  | .ld_a_atA16 nn => shape_ldAAbs nn 3 16 s
  | .ei => shape_ei s
  | .illegal_FC => shape_fatal _ s
  | .illegal_FD => shape_fatal _ s
  | .cp_d8 n => shape_aluImm .cp n s
  | .rst_38 => shape_rstTo .n7 s
  | .rlc_b => shape_rotateReg .rlc .b s
  | .rlc_c => shape_rotateReg .rlc .c s
  | .rlc_d => shape_rotateReg .rlc .d s
  | .rlc_e => shape_rotateReg .rlc .e s
  | .rlc_h => shape_rotateReg .rlc .h s
  | .rlc_l => shape_rotateReg .rlc .l s
  | .rlc_atHL => shape_rotateHL .rlc s
  | .rlc_a => shape_rotateReg .rlc .a s
  | .rrc_b => shape_rotateReg .rrc .b s
  | .rrc_c => shape_rotateReg .rrc .c s
  | .rrc_d => shape_rotateReg .rrc .d s
  | .rrc_e => shape_rotateReg .rrc .e s
  | .rrc_h => shape_rotateReg .rrc .h s
  | .rrc_l => shape_rotateReg .rrc .l s
  | .rrc_atHL => shape_rotateHL .rrc s
  | .rrc_a => shape_rotateReg .rrc .a s
  | .rl_b => shape_rotateReg .rl .b s
  | .rl_c => shape_rotateReg .rl .c s
  | .rl_d => shape_rotateReg .rl .d s
  | .rl_e => shape_rotateReg .rl .e s
  | .rl_h => shape_rotateReg .rl .h s
  | .rl_l => shape_rotateReg .rl .l s
  | .rl_atHL => shape_rotateHL .rl s
  | .rl_a => shape_rotateReg .rl .a s
  | .rr_b => shape_rotateReg .rr .b s
  | .rr_c => shape_rotateReg .rr .c s
  | .rr_d => shape_rotateReg .rr .d s
  | .rr_e => shape_rotateReg .rr .e s
  | .rr_h => shape_rotateReg .rr .h s
  | .rr_l => shape_rotateReg .rr .l s
  | .rr_atHL => shape_rotateHL .rr s
  | .rr_a => shape_rotateReg .rr .a s
  | .sla_b => shape_rotateReg .sla .b s
  | .sla_c => shape_rotateReg .sla .c s
  | .sla_d => shape_rotateReg .sla .d s
  | .sla_e => shape_rotateReg .sla .e s
  | .sla_h => shape_rotateReg .sla .h s
  | .sla_l => shape_rotateReg .sla .l s
  | .sla_atHL => shape_rotateHL .sla s
  | .sla_a => shape_rotateReg .sla .a s
  | .sra_b => shape_rotateReg .sra .b s
  | .sra_c => shape_rotateReg .sra .c s
  | .sra_d => shape_rotateReg .sra .d s
  | .sra_e => shape_rotateReg .sra .e s
  | .sra_h => shape_rotateReg .sra .h s
  | .sra_l => shape_rotateReg .sra .l s
  | .sra_atHL => shape_rotateHL .sra s
  | .sra_a => shape_rotateReg .sra .a s
  | .swap_b => shape_rotateReg .swap .b s
  | .swap_c => shape_rotateReg .swap .c s
  | .swap_d => shape_rotateReg .swap .d s
  | .swap_e => shape_rotateReg .swap .e s
  | .swap_h => shape_rotateReg .swap .h s
  | .swap_l => shape_rotateReg .swap .l s
  | .swap_atHL => shape_rotateHL .swap s
  | .swap_a => shape_rotateReg .swap .a s
  | .srl_b => shape_rotateReg .srl .b s
  | .srl_c => shape_rotateReg .srl .c s
  | .srl_d => shape_rotateReg .srl .d s
  | .srl_e => shape_rotateReg .srl .e s
  | .srl_h => shape_rotateReg .srl .h s
  | .srl_l => shape_rotateReg .srl .l s
  | .srl_atHL => shape_rotateHL .srl s
  | .srl_a => shape_rotateReg .srl .a s
  | .bit_0_b => shape_bitTestReg .n0 .b s
  | .bit_0_c => shape_bitTestReg .n0 .c s
  | .bit_0_d => shape_bitTestReg .n0 .d s
  | .bit_0_e => shape_bitTestReg .n0 .e s
  | .bit_0_h => shape_bitTestReg .n0 .h s
  | .bit_0_l => shape_bitTestReg .n0 .l s
  | .bit_0_atHL => shape_bitTestHL .n0 s
  | .bit_0_a => shape_bitTestReg .n0 .a s
  | .bit_1_b => shape_bitTestReg .n1 .b s
  | .bit_1_c => shape_bitTestReg .n1 .c s
  | .bit_1_d => shape_bitTestReg .n1 .d s
  | .bit_1_e => shape_bitTestReg .n1 .e s
  | .bit_1_h => shape_bitTestReg .n1 .h s
  | .bit_1_l => shape_bitTestReg .n1 .l s
  | .bit_1_atHL => shape_bitTestHL .n1 s
  | .bit_1_a => shape_bitTestReg .n1 .a s
  | .bit_2_b => shape_bitTestReg .n2 .b s
  | .bit_2_c => shape_bitTestReg .n2 .c s
  | .bit_2_d => shape_bitTestReg .n2 .d s
  | .bit_2_e => shape_bitTestReg .n2 .e s
  | .bit_2_h => shape_bitTestReg .n2 .h s
  | .bit_2_l => shape_bitTestReg .n2 .l s
  | .bit_2_atHL => shape_bitTestHL .n2 s
  | .bit_2_a => shape_bitTestReg .n2 .a s
  | .bit_3_b => shape_bitTestReg .n3 .b s
  | .bit_3_c => shape_bitTestReg .n3 .c s
  | .bit_3_d => shape_bitTestReg .n3 .d s
  | .bit_3_e => shape_bitTestReg .n3 .e s
  | .bit_3_h => shape_bitTestReg .n3 .h s
  | .bit_3_l => shape_bitTestReg .n3 .l s
  | .bit_3_atHL => shape_bitTestHL .n3 s
  | .bit_3_a => shape_bitTestReg .n3 .a s
  | .bit_4_b => shape_bitTestReg .n4 .b s
  | .bit_4_c => shape_bitTestReg .n4 .c s
  | .bit_4_d => shape_bitTestReg .n4 .d s
  | .bit_4_e => shape_bitTestReg .n4 .e s
  | .bit_4_h => shape_bitTestReg .n4 .h s
  | .bit_4_l => shape_bitTestReg .n4 .l s
  | .bit_4_atHL => shape_bitTestHL .n4 s
  | .bit_4_a => shape_bitTestReg .n4 .a s
  | .bit_5_b => shape_bitTestReg .n5 .b s
  | .bit_5_c => shape_bitTestReg .n5 .c s
  | .bit_5_d => shape_bitTestReg .n5 .d s
  | .bit_5_e => shape_bitTestReg .n5 .e s
  | .bit_5_h => shape_bitTestReg .n5 .h s
  | .bit_5_l => shape_bitTestReg .n5 .l s
  | .bit_5_atHL => shape_bitTestHL .n5 s
  | .bit_5_a => shape_bitTestReg .n5 .a s
  | .bit_6_b => shape_bitTestReg .n6 .b s
  | .bit_6_c => shape_bitTestReg .n6 .c s
  | .bit_6_d => shape_bitTestReg .n6 .d s
  | .bit_6_e => shape_bitTestReg .n6 .e s
  | .bit_6_h => shape_bitTestReg .n6 .h s
  | .bit_6_l => shape_bitTestReg .n6 .l s
  | .bit_6_atHL => shape_bitTestHL .n6 s
  | .bit_6_a => shape_bitTestReg .n6 .a s
  | .bit_7_b => shape_bitTestReg .n7 .b s
  | .bit_7_c => shape_bitTestReg .n7 .c s
  | .bit_7_d => shape_bitTestReg .n7 .d s
  | .bit_7_e => shape_bitTestReg .n7 .e s
  | .bit_7_h => shape_bitTestReg .n7 .h s
  | .bit_7_l => shape_bitTestReg .n7 .l s
  | .bit_7_atHL => shape_bitTestHL .n7 s
  | .bit_7_a => shape_bitTestReg .n7 .a s
  | .res_0_b => shape_bitResetReg .n0 .b s
  | .res_0_c => shape_bitResetReg .n0 .c s
  | .res_0_d => shape_bitResetReg .n0 .d s
  | .res_0_e => shape_bitResetReg .n0 .e s
  | .res_0_h => shape_bitResetReg .n0 .h s
  | .res_0_l => shape_bitResetReg .n0 .l s
  | .res_0_atHL => shape_bitResetHL .n0 s
  | .res_0_a => shape_bitResetReg .n0 .a s
  | .res_1_b => shape_bitResetReg .n1 .b s
  | .res_1_c => shape_bitResetReg .n1 .c s
  | .res_1_d => shape_bitResetReg .n1 .d s
  | .res_1_e => shape_bitResetReg .n1 .e s
  | .res_1_h => shape_bitResetReg .n1 .h s
  | .res_1_l => shape_bitResetReg .n1 .l s
  | .res_1_atHL => shape_bitResetHL .n1 s
  | .res_1_a => shape_bitResetReg .n1 .a s
  | .res_2_b => shape_bitResetReg .n2 .b s
  | .res_2_c => shape_bitResetReg .n2 .c s
  | .res_2_d => shape_bitResetReg .n2 .d s
  | .res_2_e => shape_bitResetReg .n2 .e s
  | .res_2_h => shape_bitResetReg .n2 .h s
  | .res_2_l => shape_bitResetReg .n2 .l s
  | .res_2_atHL => shape_bitResetHL .n2 s
  | .res_2_a => shape_bitResetReg .n2 .a s
  | .res_3_b => shape_bitResetReg .n3 .b s
  | .res_3_c => shape_bitResetReg .n3 .c s
  | .res_3_d => shape_bitResetReg .n3 .d s
  | .res_3_e => shape_bitResetReg .n3 .e s
  | .res_3_h => shape_bitResetReg .n3 .h s
  | .res_3_l => shape_bitResetReg .n3 .l s
  | .res_3_atHL => shape_bitResetHL .n3 s
  | .res_3_a => shape_bitResetReg .n3 .a s
  | .res_4_b => shape_bitResetReg .n4 .b s
  | .res_4_c => shape_bitResetReg .n4 .c s
  | .res_4_d => shape_bitResetReg .n4 .d s
  | .res_4_e => shape_bitResetReg .n4 .e s
  | .res_4_h => shape_bitResetReg .n4 .h s
  | .res_4_l => shape_bitResetReg .n4 .l s
  | .res_4_atHL => shape_bitResetHL .n4 s
  | .res_4_a => shape_bitResetReg .n4 .a s
  | .res_5_b => shape_bitResetReg .n5 .b s
  | .res_5_c => shape_bitResetReg .n5 .c s
  | .res_5_d => shape_bitResetReg .n5 .d s
  | .res_5_e => shape_bitResetReg .n5 .e s
  | .res_5_h => shape_bitResetReg .n5 .h s
  | .res_5_l => shape_bitResetReg .n5 .l s
  | .res_5_atHL => shape_bitResetHL .n5 s
  | .res_5_a => shape_bitResetReg .n5 .a s
  | .res_6_b => shape_bitResetReg .n6 .b s
  | .res_6_c => shape_bitResetReg .n6 .c s
  | .res_6_d => shape_bitResetReg .n6 .d s
  | .res_6_e => shape_bitResetReg .n6 .e s
  | .res_6_h => shape_bitResetReg .n6 .h s
  | .res_6_l => shape_bitResetReg .n6 .l s
  | .res_6_atHL => shape_bitResetHL .n6 s
  | .res_6_a => shape_bitResetReg .n6 .a s
  | .res_7_b => shape_bitResetReg .n7 .b s
  | .res_7_c => shape_bitResetReg .n7 .c s
  | .res_7_d => shape_bitResetReg .n7 .d s
  | .res_7_e => shape_bitResetReg .n7 .e s
  | .res_7_h => shape_bitResetReg .n7 .h s
  | .res_7_l => shape_bitResetReg .n7 .l s
  | .res_7_atHL => shape_bitResetHL .n7 s
  | .res_7_a => shape_bitResetReg .n7 .a s
  | .set_0_b => shape_bitSetReg .n0 .b s
  | .set_0_c => shape_bitSetReg .n0 .c s
  | .set_0_d => shape_bitSetReg .n0 .d s
  | .set_0_e => shape_bitSetReg .n0 .e s
  | .set_0_h => shape_bitSetReg .n0 .h s
  | .set_0_l => shape_bitSetReg .n0 .l s
  | .set_0_atHL => shape_bitSetHL .n0 s
  | .set_0_a => shape_bitSetReg .n0 .a s
  | .set_1_b => shape_bitSetReg .n1 .b s
  | .set_1_c => shape_bitSetReg .n1 .c s
  | .set_1_d => shape_bitSetReg .n1 .d s
  | .set_1_e => shape_bitSetReg .n1 .e s
  | .set_1_h => shape_bitSetReg .n1 .h s
  | .set_1_l => shape_bitSetReg .n1 .l s
  | .set_1_atHL => shape_bitSetHL .n1 s
  | .set_1_a => shape_bitSetReg .n1 .a s
  | .set_2_b => shape_bitSetReg .n2 .b s
  | .set_2_c => shape_bitSetReg .n2 .c s
  | .set_2_d => shape_bitSetReg .n2 .d s
  | .set_2_e => shape_bitSetReg .n2 .e s
  | .set_2_h => shape_bitSetReg .n2 .h s
  | .set_2_l => shape_bitSetReg .n2 .l s
  | .set_2_atHL => shape_bitSetHL .n2 s
  | .set_2_a => shape_bitSetReg .n2 .a s
  | .set_3_b => shape_bitSetReg .n3 .b s
  | .set_3_c => shape_bitSetReg .n3 .c s
  | .set_3_d => shape_bitSetReg .n3 .d s
  | .set_3_e => shape_bitSetReg .n3 .e s
  | .set_3_h => shape_bitSetReg .n3 .h s
  | .set_3_l => shape_bitSetReg .n3 .l s
  | .set_3_atHL => shape_bitSetHL .n3 s
  | .set_3_a => shape_bitSetReg .n3 .a s
  | .set_4_b => shape_bitSetReg .n4 .b s
  | .set_4_c => shape_bitSetReg .n4 .c s
  | .set_4_d => shape_bitSetReg .n4 .d s
  | .set_4_e => shape_bitSetReg .n4 .e s
  | .set_4_h => shape_bitSetReg .n4 .h s
  | .set_4_l => shape_bitSetReg .n4 .l s
  | .set_4_atHL => shape_bitSetHL .n4 s
  | .set_4_a => shape_bitSetReg .n4 .a s
  | .set_5_b => shape_bitSetReg .n5 .b s
  | .set_5_c => shape_bitSetReg .n5 .c s
  | .set_5_d => shape_bitSetReg .n5 .d s
  | .set_5_e => shape_bitSetReg .n5 .e s
  | .set_5_h => shape_bitSetReg .n5 .h s
  | .set_5_l => shape_bitSetReg .n5 .l s
  | .set_5_atHL => shape_bitSetHL .n5 s
  | .set_5_a => shape_bitSetReg .n5 .a s
  | .set_6_b => shape_bitSetReg .n6 .b s
  | .set_6_c => shape_bitSetReg .n6 .c s
  | .set_6_d => shape_bitSetReg .n6 .d s
  | .set_6_e => shape_bitSetReg .n6 .e s
  | .set_6_h => shape_bitSetReg .n6 .h s
  | .set_6_l => shape_bitSetReg .n6 .l s
  | .set_6_atHL => shape_bitSetHL .n6 s
  | .set_6_a => shape_bitSetReg .n6 .a s
  | .set_7_b => shape_bitSetReg .n7 .b s
  | .set_7_c => shape_bitSetReg .n7 .c s
  | .set_7_d => shape_bitSetReg .n7 .d s
  | .set_7_e => shape_bitSetReg .n7 .e s
  | .set_7_h => shape_bitSetReg .n7 .h s
  | .set_7_l => shape_bitSetReg .n7 .l s
  | .set_7_atHL => shape_bitSetHL .n7 s
  | .set_7_a => shape_bitSetReg .n7 .a s

/-- Every instruction but HALT, STOP, DI, EI, RETI and the illegal bytes is ordinary. -/
theorem exec_ordinary (i : Instr) (s : State) (h : Instr.isControl i = false) : Ordinary s (exec i s) :=
  match i with
  | .nop => ordinary_nop s
  | .ld_bc_d16 nn => ordinary_ldPairImm .bc nn s
  | .ld_atBC_a => ordinary_ldATo .bc s
  | .inc_bc => ordinary_incPair .bc s
  | .inc_b => ordinary_incReg .b s
  | .dec_b => ordinary_decReg .b s
  | .ld_b_d8 n => ordinary_ldImm .b n s
  | .rlca => ordinary_rotateA (rlc8 s.a) s
  | .ld_atA16_sp nn => ordinary_ld_atA16_sp nn s
  | .add_hl_bc => ordinary_addHLPair .bc s
  | .ld_a_atBC => ordinary_ldAFrom .bc s
  | .dec_bc => ordinary_decPair .bc s
  | .inc_c => ordinary_incReg .c s
  | .dec_c => ordinary_decReg .c s
  | .ld_c_d8 n => ordinary_ldImm .c n s
  | .rrca => ordinary_rotateA (rrc8 s.a) s
  | .stop _ => nomatch h
  | .ld_de_d16 nn => ordinary_ldPairImm .de nn s
  | .ld_atDE_a => ordinary_ldATo .de s
  | .inc_de => ordinary_incPair .de s
  | .inc_d => ordinary_incReg .d s
  | .dec_d => ordinary_decReg .d s
  | .ld_d_d8 n => ordinary_ldImm .d n s
  | .rla => ordinary_rotateA (rl8 s.a s.flagC) s
  | .jr_e8 e => ordinary_jr_e8 e s
  | .add_hl_de => ordinary_addHLPair .de s
  | .ld_a_atDE => ordinary_ldAFrom .de s
  | .dec_de => ordinary_decPair .de s
  | .inc_e => ordinary_incReg .e s
  | .dec_e => ordinary_decReg .e s
  | .ld_e_d8 n => ordinary_ldImm .e n s
  | .rra => ordinary_rotateA (rr8 s.a s.flagC) s
  | .jr_nz_e8 e => ordinary_jrCond .nz e s
  | .ld_hl_d16 nn => ordinary_ldPairImm .hl nn s
  | .ld_atHLinc_a => ordinary_ldATo .hlInc s
  | .inc_hl => ordinary_incPair .hl s
  | .inc_h => ordinary_incReg .h s
  | .dec_h => ordinary_decReg .h s
  | .ld_h_d8 n => ordinary_ldImm .h n s
  | .daa => ordinary_daa s
  | .jr_z_e8 e => ordinary_jrCond .z e s
  | .add_hl_hl => ordinary_addHLPair .hl s
  | .ld_a_atHLinc => ordinary_ldAFrom .hlInc s
  | .dec_hl => ordinary_decPair .hl s
  | .inc_l => ordinary_incReg .l s
  | .dec_l => ordinary_decReg .l s
  | .ld_l_d8 n => ordinary_ldImm .l n s
  | .cpl => ordinary_cpl s
  | .jr_nc_e8 e => ordinary_jrCond .nc e s
  | .ld_sp_d16 nn => ordinary_ldPairImm .sp nn s
  | .ld_atHLdec_a => ordinary_ldATo .hlDec s
  | .inc_sp => ordinary_incPair .sp s
  | .inc_atHL => ordinary_inc_atHL s
  | .dec_atHL => ordinary_dec_atHL s
  | .ld_atHL_d8 n => ordinary_ld_atHL_d8 n s
  | .scf => ordinary_scf s
  | .jr_c_e8 e => ordinary_jrCond .c e s
  | .add_hl_sp => ordinary_addHLPair .sp s
  | .ld_a_atHLdec => ordinary_ldAFrom .hlDec s
  | .dec_sp => ordinary_decPair .sp s
  | .inc_a => ordinary_incReg .a s
  | .dec_a => ordinary_decReg .a s
  | .ld_a_d8 n => ordinary_ldImm .a n s
  | .ccf => ordinary_ccf s
  | .ld_b_b => ordinary_ldReg .b .b s
  | .ld_b_c => ordinary_ldReg .b .c s
  | .ld_b_d => ordinary_ldReg .b .d s
  | .ld_b_e => ordinary_ldReg .b .e s
  | .ld_b_h => ordinary_ldReg .b .h s
  | .ld_b_l => ordinary_ldReg .b .l s
  | .ld_b_atHL => ordinary_ldFromHL .b s
  | .ld_b_a => ordinary_ldReg .b .a s
  | .ld_c_b => ordinary_ldReg .c .b s
  | .ld_c_c => ordinary_ldReg .c .c s
  | .ld_c_d => ordinary_ldReg .c .d s
  | .ld_c_e => ordinary_ldReg .c .e s
  | .ld_c_h => ordinary_ldReg .c .h s
  | .ld_c_l => ordinary_ldReg .c .l s
  | .ld_c_atHL => ordinary_ldFromHL .c s
  | .ld_c_a => ordinary_ldReg .c .a s
  | .ld_d_b => ordinary_ldReg .d .b s
  | .ld_d_c => ordinary_ldReg .d .c s
  | .ld_d_d => ordinary_ldReg .d .d s
  | .ld_d_e => ordinary_ldReg .d .e s
  | .ld_d_h => ordinary_ldReg .d .h s
  | .ld_d_l => ordinary_ldReg .d .l s
  | .ld_d_atHL => ordinary_ldFromHL .d s
  | .ld_d_a => ordinary_ldReg .d .a s
  | .ld_e_b => ordinary_ldReg .e .b s
  | .ld_e_c => ordinary_ldReg .e .c s
  | .ld_e_d => ordinary_ldReg .e .d s
  | .ld_e_e => ordinary_ldReg .e .e s
  | .ld_e_h => ordinary_ldReg .e .h s
  | .ld_e_l => ordinary_ldReg .e .l s
  | .ld_e_atHL => ordinary_ldFromHL .e s
  | .ld_e_a => ordinary_ldReg .e .a s
  | .ld_h_b => ordinary_ldReg .h .b s
  | .ld_h_c => ordinary_ldReg .h .c s
  | .ld_h_d => ordinary_ldReg .h .d s
  | .ld_h_e => ordinary_ldReg .h .e s
  | .ld_h_h => ordinary_ldReg .h .h s
  | .ld_h_l => ordinary_ldReg .h .l s
  | .ld_h_atHL => ordinary_ldFromHL .h s
  | .ld_h_a => ordinary_ldReg .h .a s
  | .ld_l_b => ordinary_ldReg .l .b s
  | .ld_l_c => ordinary_ldReg .l .c s
  | .ld_l_d => ordinary_ldReg .l .d s
  | .ld_l_e => ordinary_ldReg .l .e s
  | .ld_l_h => ordinary_ldReg .l .h s
  | .ld_l_l => ordinary_ldReg .l .l s
  | .ld_l_atHL => ordinary_ldFromHL .l s
  | .ld_l_a => ordinary_ldReg .l .a s
  | .ld_atHL_b => ordinary_ldToHL .b s
  | .ld_atHL_c => ordinary_ldToHL .c s
  | .ld_atHL_d => ordinary_ldToHL .d s
  | .ld_atHL_e => ordinary_ldToHL .e s
  | .ld_atHL_h => ordinary_ldToHL .h s
  | .ld_atHL_l => ordinary_ldToHL .l s
  | .halt => nomatch h
  | .ld_atHL_a => ordinary_ldToHL .a s
  | .ld_a_b => ordinary_ldReg .a .b s
  | .ld_a_c => ordinary_ldReg .a .c s
  | .ld_a_d => ordinary_ldReg .a .d s
  | .ld_a_e => ordinary_ldReg .a .e s
  | .ld_a_h => ordinary_ldReg .a .h s
  | .ld_a_l => ordinary_ldReg .a .l s
  | .ld_a_atHL => ordinary_ldFromHL .a s
  | .ld_a_a => ordinary_ldReg .a .a s
  | .add_a_b => ordinary_aluReg .add .b s
  | .add_a_c => ordinary_aluReg .add .c s
  | .add_a_d => ordinary_aluReg .add .d s
  | .add_a_e => ordinary_aluReg .add .e s
  | .add_a_h => ordinary_aluReg .add .h s
  | .add_a_l => ordinary_aluReg .add .l s
  | .add_a_atHL => ordinary_aluHL .add s
  | .add_a_a => ordinary_aluReg .add .a s
  | .adc_a_b => ordinary_aluReg .adc .b s
  | .adc_a_c => ordinary_aluReg .adc .c s
  | .adc_a_d => ordinary_aluReg .adc .d s
  | .adc_a_e => ordinary_aluReg .adc .e s
  | .adc_a_h => ordinary_aluReg .adc .h s
  | .adc_a_l => ordinary_aluReg .adc .l s
  | .adc_a_atHL => ordinary_aluHL .adc s
  | .adc_a_a => ordinary_aluReg .adc .a s
  | .sub_b => ordinary_aluReg .sub .b s
  | .sub_c => ordinary_aluReg .sub .c s
  | .sub_d => ordinary_aluReg .sub .d s
  | .sub_e => ordinary_aluReg .sub .e s
  | .sub_h => ordinary_aluReg .sub .h s
  | .sub_l => ordinary_aluReg .sub .l s
  | .sub_atHL => ordinary_aluHL .sub s
  | .sub_a => ordinary_aluReg .sub .a s
  | .sbc_a_b => ordinary_aluReg .sbc .b s
  | .sbc_a_c => ordinary_aluReg .sbc .c s
  | .sbc_a_d => ordinary_aluReg .sbc .d s
  | .sbc_a_e => ordinary_aluReg .sbc .e s
  | .sbc_a_h => ordinary_aluReg .sbc .h s
  | .sbc_a_l => ordinary_aluReg .sbc .l s
  | .sbc_a_atHL => ordinary_aluHL .sbc s
  | .sbc_a_a => ordinary_aluReg .sbc .a s
  | .and_b => ordinary_aluReg .and .b s
  | .and_c => ordinary_aluReg .and .c s
  | .and_d => ordinary_aluReg .and .d s
  | .and_e => ordinary_aluReg .and .e s
  | .and_h => ordinary_aluReg .and .h s
  | .and_l => ordinary_aluReg .and .l s
  | .and_atHL => ordinary_aluHL .and s
  | .and_a => ordinary_aluReg .and .a s
  | .xor_b => ordinary_aluReg .xor .b s
  | .xor_c => ordinary_aluReg .xor .c s
  | .xor_d => ordinary_aluReg .xor .d s
  | .xor_e => ordinary_aluReg .xor .e s
  | .xor_h => ordinary_aluReg .xor .h s
  | .xor_l => ordinary_aluReg .xor .l s
  | .xor_atHL => ordinary_aluHL .xor s
  | .xor_a => ordinary_aluReg .xor .a s
  | .or_b => ordinary_aluReg .or .b s
  | .or_c => ordinary_aluReg .or .c s
  | .or_d => ordinary_aluReg .or .d s
  | .or_e => ordinary_aluReg .or .e s
  | .or_h => ordinary_aluReg .or .h s
  | .or_l => ordinary_aluReg .or .l s
  | .or_atHL => ordinary_aluHL .or s
  | .or_a => ordinary_aluReg .or .a s
  | .cp_b => ordinary_aluReg .cp .b s
  | .cp_c => ordinary_aluReg .cp .c s
  | .cp_d => ordinary_aluReg .cp .d s
  | .cp_e => ordinary_aluReg .cp .e s
  | .cp_h => ordinary_aluReg .cp .h s
  | .cp_l => ordinary_aluReg .cp .l s
  | .cp_atHL => ordinary_aluHL .cp s
  | .cp_a => ordinary_aluReg .cp .a s
  | .ret_nz => ordinary_retCond .nz s
  | .pop_bc => ordinary_popPair .bc s
  | .jp_nz_a16 nn => ordinary_jpCond .nz nn s
  | .jp_a16 nn => ordinary_jp_a16 nn s
  | .call_nz_a16 nn => ordinary_callCond .nz nn s
  | .push_bc => ordinary_pushPair .bc s
  | .add_a_d8 n => ordinary_aluImm .add n s
  | .rst_00 => ordinary_rstTo .n0 s
  | .ret_z => ordinary_retCond .z s
  | .ret => ordinary_ret s
  | .jp_z_a16 nn => ordinary_jpCond .z nn s
  | .call_z_a16 nn => ordinary_callCond .z nn s
  | .call_a16 nn => ordinary_call_a16 nn s
  | .adc_a_d8 n => ordinary_aluImm .adc n s
  | .rst_08 => ordinary_rstTo .n1 s
  | .ret_nc => ordinary_retCond .nc s
  | .pop_de => ordinary_popPair .de s
  | .jp_nc_a16 nn => ordinary_jpCond .nc nn s
  | .illegal_D3 => nomatch h
  | .call_nc_a16 nn => ordinary_callCond .nc nn s
  | .push_de => ordinary_pushPair .de s
  | .sub_d8 n => ordinary_aluImm .sub n s
  | .rst_10 => ordinary_rstTo .n2 s
  | .ret_c => ordinary_retCond .c s
  | .reti => nomatch h
  | .jp_c_a16 nn => ordinary_jpCond .c nn s
  | .illegal_DB => nomatch h
  | .call_c_a16 nn => ordinary_callCond .c nn s
  | .illegal_DD => nomatch h
  | .sbc_a_d8 n => ordinary_aluImm .sbc n s
  | .rst_18 => ordinary_rstTo .n3 s
  | .ldh_atA8_a n => ordinary_stAAbs (highPage n) 2 12 (by decide) s
  | .pop_hl => ordinary_popPair .hl s
  | .ldh_atC_a => ordinary_stAAbs (highPage s.c) 1 8 (by decide) s
  | .illegal_E3 => nomatch h
  | .illegal_E4 => nomatch h
  | .push_hl => ordinary_pushPair .hl s
  | .and_d8 n => ordinary_aluImm .and n s
  | .rst_20 => ordinary_rstTo .n4 s
  | .add_sp_e8 e => ordinary_add_sp_e8 e s
  | .jp_hl => ordinary_jp_hl s
  | .ld_atA16_a nn => ordinary_stAAbs nn 3 16 (by decide) s
  | .illegal_EB => nomatch h
  | .illegal_EC => nomatch h
  | .illegal_ED => nomatch h
  | .xor_d8 n => ordinary_aluImm .xor n s
  | .rst_28 => ordinary_rstTo .n5 s
  | .ldh_a_atA8 n => ordinary_ldAAbs (highPage n) 2 12 (by decide) s
  | .pop_af => ordinary_popPair .af s
  | .ldh_a_atC => ordinary_ldAAbs (highPage s.c) 1 8 (by decide) s
  | .di => nomatch h
  | .illegal_F4 => nomatch h
  | .push_af => ordinary_pushPair .af s
  | .or_d8 n => ordinary_aluImm .or n s
  | .rst_30 => ordinary_rstTo .n6 s
  | .ld_hl_sp_e8 e => ordinary_ld_hl_sp_e8 e s
  | .ld_sp_hl => ordinary_ld_sp_hl s
  | .ld_a_atA16 nn => ordinary_ldAAbs nn 3 16 (by decide) s
  | .ei => nomatch h
  | .illegal_FC => nomatch h
  | .illegal_FD => nomatch h
  | .cp_d8 n => ordinary_aluImm .cp n s
  | .rst_38 => ordinary_rstTo .n7 s
  | .rlc_b => ordinary_rotateReg .rlc .b s
  | .rlc_c => ordinary_rotateReg .rlc .c s
  | .rlc_d => ordinary_rotateReg .rlc .d s
  | .rlc_e => ordinary_rotateReg .rlc .e s
  | .rlc_h => ordinary_rotateReg .rlc .h s
  | .rlc_l => ordinary_rotateReg .rlc .l s
  | .rlc_atHL => ordinary_rotateHL .rlc s
  | .rlc_a => ordinary_rotateReg .rlc .a s
  | .rrc_b => ordinary_rotateReg .rrc .b s
  | .rrc_c => ordinary_rotateReg .rrc .c s
  | .rrc_d => ordinary_rotateReg .rrc .d s
  | .rrc_e => ordinary_rotateReg .rrc .e s
  | .rrc_h => ordinary_rotateReg .rrc .h s
  | .rrc_l => ordinary_rotateReg .rrc .l s
  | .rrc_atHL => ordinary_rotateHL .rrc s
  | .rrc_a => ordinary_rotateReg .rrc .a s
  | .rl_b => ordinary_rotateReg .rl .b s
  | .rl_c => ordinary_rotateReg .rl .c s
  | .rl_d => ordinary_rotateReg .rl .d s
  | .rl_e => ordinary_rotateReg .rl .e s
  | .rl_h => ordinary_rotateReg .rl .h s
  | .rl_l => ordinary_rotateReg .rl .l s
  | .rl_atHL => ordinary_rotateHL .rl s
  | .rl_a => ordinary_rotateReg .rl .a s
  | .rr_b => ordinary_rotateReg .rr .b s
  | .rr_c => ordinary_rotateReg .rr .c s
  | .rr_d => ordinary_rotateReg .rr .d s
  | .rr_e => ordinary_rotateReg .rr .e s
  | .rr_h => ordinary_rotateReg .rr .h s
  | .rr_l => ordinary_rotateReg .rr .l s
  | .rr_atHL => ordinary_rotateHL .rr s
  | .rr_a => ordinary_rotateReg .rr .a s
  | .sla_b => ordinary_rotateReg .sla .b s
  | .sla_c => ordinary_rotateReg .sla .c s
  | .sla_d => ordinary_rotateReg .sla .d s
  | .sla_e => ordinary_rotateReg .sla .e s
  | .sla_h => ordinary_rotateReg .sla .h s
  | .sla_l => ordinary_rotateReg .sla .l s
  | .sla_atHL => ordinary_rotateHL .sla s
  | .sla_a => ordinary_rotateReg .sla .a s
  | .sra_b => ordinary_rotateReg .sra .b s
  | .sra_c => ordinary_rotateReg .sra .c s
  | .sra_d => ordinary_rotateReg .sra .d s
  | .sra_e => ordinary_rotateReg .sra .e s
  | .sra_h => ordinary_rotateReg .sra .h s
  | .sra_l => ordinary_rotateReg .sra .l s
  | .sra_atHL => ordinary_rotateHL .sra s
  | .sra_a => ordinary_rotateReg .sra .a s
  | .swap_b => ordinary_rotateReg .swap .b s
  | .swap_c => ordinary_rotateReg .swap .c s
  | .swap_d => ordinary_rotateReg .swap .d s
  | .swap_e => ordinary_rotateReg .swap .e s
  | .swap_h => ordinary_rotateReg .swap .h s
  | .swap_l => ordinary_rotateReg .swap .l s
  | .swap_atHL => ordinary_rotateHL .swap s
  | .swap_a => ordinary_rotateReg .swap .a s
  | .srl_b => ordinary_rotateReg .srl .b s
  | .srl_c => ordinary_rotateReg .srl .c s
  | .srl_d => ordinary_rotateReg .srl .d s
  | .srl_e => ordinary_rotateReg .srl .e s
  | .srl_h => ordinary_rotateReg .srl .h s
  | .srl_l => ordinary_rotateReg .srl .l s
  | .srl_atHL => ordinary_rotateHL .srl s
  | .srl_a => ordinary_rotateReg .srl .a s
  | .bit_0_b => ordinary_bitTestReg .n0 .b s
  | .bit_0_c => ordinary_bitTestReg .n0 .c s
  | .bit_0_d => ordinary_bitTestReg .n0 .d s
  | .bit_0_e => ordinary_bitTestReg .n0 .e s
  | .bit_0_h => ordinary_bitTestReg .n0 .h s
  | .bit_0_l => ordinary_bitTestReg .n0 .l s
  | .bit_0_atHL => ordinary_bitTestHL .n0 s
  | .bit_0_a => ordinary_bitTestReg .n0 .a s
  | .bit_1_b => ordinary_bitTestReg .n1 .b s
  | .bit_1_c => ordinary_bitTestReg .n1 .c s
  | .bit_1_d => ordinary_bitTestReg .n1 .d s
  | .bit_1_e => ordinary_bitTestReg .n1 .e s
  | .bit_1_h => ordinary_bitTestReg .n1 .h s
  | .bit_1_l => ordinary_bitTestReg .n1 .l s
  | .bit_1_atHL => ordinary_bitTestHL .n1 s
  | .bit_1_a => ordinary_bitTestReg .n1 .a s
  | .bit_2_b => ordinary_bitTestReg .n2 .b s
  | .bit_2_c => ordinary_bitTestReg .n2 .c s
  | .bit_2_d => ordinary_bitTestReg .n2 .d s
  | .bit_2_e => ordinary_bitTestReg .n2 .e s
  | .bit_2_h => ordinary_bitTestReg .n2 .h s
  | .bit_2_l => ordinary_bitTestReg .n2 .l s
  | .bit_2_atHL => ordinary_bitTestHL .n2 s
  | .bit_2_a => ordinary_bitTestReg .n2 .a s
  | .bit_3_b => ordinary_bitTestReg .n3 .b s
  | .bit_3_c => ordinary_bitTestReg .n3 .c s
  | .bit_3_d => ordinary_bitTestReg .n3 .d s
  | .bit_3_e => ordinary_bitTestReg .n3 .e s
  | .bit_3_h => ordinary_bitTestReg .n3 .h s
  | .bit_3_l => ordinary_bitTestReg .n3 .l s
  | .bit_3_atHL => ordinary_bitTestHL .n3 s
  | .bit_3_a => ordinary_bitTestReg .n3 .a s
  | .bit_4_b => ordinary_bitTestReg .n4 .b s
  | .bit_4_c => ordinary_bitTestReg .n4 .c s
  | .bit_4_d => ordinary_bitTestReg .n4 .d s
  | .bit_4_e => ordinary_bitTestReg .n4 .e s
  | .bit_4_h => ordinary_bitTestReg .n4 .h s
  | .bit_4_l => ordinary_bitTestReg .n4 .l s
  | .bit_4_atHL => ordinary_bitTestHL .n4 s
  | .bit_4_a => ordinary_bitTestReg .n4 .a s
  | .bit_5_b => ordinary_bitTestReg .n5 .b s
  | .bit_5_c => ordinary_bitTestReg .n5 .c s
  | .bit_5_d => ordinary_bitTestReg .n5 .d s
  | .bit_5_e => ordinary_bitTestReg .n5 .e s
  | .bit_5_h => ordinary_bitTestReg .n5 .h s
  | .bit_5_l => ordinary_bitTestReg .n5 .l s
  | .bit_5_atHL => ordinary_bitTestHL .n5 s
  | .bit_5_a => ordinary_bitTestReg .n5 .a s
  | .bit_6_b => ordinary_bitTestReg .n6 .b s
  | .bit_6_c => ordinary_bitTestReg .n6 .c s
  | .bit_6_d => ordinary_bitTestReg .n6 .d s
  | .bit_6_e => ordinary_bitTestReg .n6 .e s
  | .bit_6_h => ordinary_bitTestReg .n6 .h s
  | .bit_6_l => ordinary_bitTestReg .n6 .l s
  | .bit_6_atHL => ordinary_bitTestHL .n6 s
  | .bit_6_a => ordinary_bitTestReg .n6 .a s
  | .bit_7_b => ordinary_bitTestReg .n7 .b s
  | .bit_7_c => ordinary_bitTestReg .n7 .c s
  | .bit_7_d => ordinary_bitTestReg .n7 .d s
  | .bit_7_e => ordinary_bitTestReg .n7 .e s
  | .bit_7_h => ordinary_bitTestReg .n7 .h s
  | .bit_7_l => ordinary_bitTestReg .n7 .l s
  | .bit_7_atHL => ordinary_bitTestHL .n7 s
  | .bit_7_a => ordinary_bitTestReg .n7 .a s
  | .res_0_b => ordinary_bitResetReg .n0 .b s
  | .res_0_c => ordinary_bitResetReg .n0 .c s
  | .res_0_d => ordinary_bitResetReg .n0 .d s
  | .res_0_e => ordinary_bitResetReg .n0 .e s
  | .res_0_h => ordinary_bitResetReg .n0 .h s
  | .res_0_l => ordinary_bitResetReg .n0 .l s
  | .res_0_atHL => ordinary_bitResetHL .n0 s
  | .res_0_a => ordinary_bitResetReg .n0 .a s
  | .res_1_b => ordinary_bitResetReg .n1 .b s
  | .res_1_c => ordinary_bitResetReg .n1 .c s
  | .res_1_d => ordinary_bitResetReg .n1 .d s
  | .res_1_e => ordinary_bitResetReg .n1 .e s
  | .res_1_h => ordinary_bitResetReg .n1 .h s
  | .res_1_l => ordinary_bitResetReg .n1 .l s
  | .res_1_atHL => ordinary_bitResetHL .n1 s
  | .res_1_a => ordinary_bitResetReg .n1 .a s
  | .res_2_b => ordinary_bitResetReg .n2 .b s
  | .res_2_c => ordinary_bitResetReg .n2 .c s
  | .res_2_d => ordinary_bitResetReg .n2 .d s
  | .res_2_e => ordinary_bitResetReg .n2 .e s
  | .res_2_h => ordinary_bitResetReg .n2 .h s
  | .res_2_l => ordinary_bitResetReg .n2 .l s
  | .res_2_atHL => ordinary_bitResetHL .n2 s
  | .res_2_a => ordinary_bitResetReg .n2 .a s
  | .res_3_b => ordinary_bitResetReg .n3 .b s
  | .res_3_c => ordinary_bitResetReg .n3 .c s
  | .res_3_d => ordinary_bitResetReg .n3 .d s
  | .res_3_e => ordinary_bitResetReg .n3 .e s
  | .res_3_h => ordinary_bitResetReg .n3 .h s
  | .res_3_l => ordinary_bitResetReg .n3 .l s
  | .res_3_atHL => ordinary_bitResetHL .n3 s
  | .res_3_a => ordinary_bitResetReg .n3 .a s
  | .res_4_b => ordinary_bitResetReg .n4 .b s
  | .res_4_c => ordinary_bitResetReg .n4 .c s
  | .res_4_d => ordinary_bitResetReg .n4 .d s
  | .res_4_e => ordinary_bitResetReg .n4 .e s
  | .res_4_h => ordinary_bitResetReg .n4 .h s
  | .res_4_l => ordinary_bitResetReg .n4 .l s
  | .res_4_atHL => ordinary_bitResetHL .n4 s
  | .res_4_a => ordinary_bitResetReg .n4 .a s
  | .res_5_b => ordinary_bitResetReg .n5 .b s
  | .res_5_c => ordinary_bitResetReg .n5 .c s
  | .res_5_d => ordinary_bitResetReg .n5 .d s
  | .res_5_e => ordinary_bitResetReg .n5 .e s
  | .res_5_h => ordinary_bitResetReg .n5 .h s
  | .res_5_l => ordinary_bitResetReg .n5 .l s
  | .res_5_atHL => ordinary_bitResetHL .n5 s
  | .res_5_a => ordinary_bitResetReg .n5 .a s
  | .res_6_b => ordinary_bitResetReg .n6 .b s
  | .res_6_c => ordinary_bitResetReg .n6 .c s
  | .res_6_d => ordinary_bitResetReg .n6 .d s
  | .res_6_e => ordinary_bitResetReg .n6 .e s
  | .res_6_h => ordinary_bitResetReg .n6 .h s
  | .res_6_l => ordinary_bitResetReg .n6 .l s
  | .res_6_atHL => ordinary_bitResetHL .n6 s
  | .res_6_a => ordinary_bitResetReg .n6 .a s
  | .res_7_b => ordinary_bitResetReg .n7 .b s
  | .res_7_c => ordinary_bitResetReg .n7 .c s
  | .res_7_d => ordinary_bitResetReg .n7 .d s
  | .res_7_e => ordinary_bitResetReg .n7 .e s
  | .res_7_h => ordinary_bitResetReg .n7 .h s
  | .res_7_l => ordinary_bitResetReg .n7 .l s
  | .res_7_atHL => ordinary_bitResetHL .n7 s
  | .res_7_a => ordinary_bitResetReg .n7 .a s
  | .set_0_b => ordinary_bitSetReg .n0 .b s
  | .set_0_c => ordinary_bitSetReg .n0 .c s
  | .set_0_d => ordinary_bitSetReg .n0 .d s
  | .set_0_e => ordinary_bitSetReg .n0 .e s
  | .set_0_h => ordinary_bitSetReg .n0 .h s
  | .set_0_l => ordinary_bitSetReg .n0 .l s
  | .set_0_atHL => ordinary_bitSetHL .n0 s
  | .set_0_a => ordinary_bitSetReg .n0 .a s
  | .set_1_b => ordinary_bitSetReg .n1 .b s
  | .set_1_c => ordinary_bitSetReg .n1 .c s
  | .set_1_d => ordinary_bitSetReg .n1 .d s
  | .set_1_e => ordinary_bitSetReg .n1 .e s
  | .set_1_h => ordinary_bitSetReg .n1 .h s
  | .set_1_l => ordinary_bitSetReg .n1 .l s
  | .set_1_atHL => ordinary_bitSetHL .n1 s
  | .set_1_a => ordinary_bitSetReg .n1 .a s
  | .set_2_b => ordinary_bitSetReg .n2 .b s
  | .set_2_c => ordinary_bitSetReg .n2 .c s
  | .set_2_d => ordinary_bitSetReg .n2 .d s
  | .set_2_e => ordinary_bitSetReg .n2 .e s
  | .set_2_h => ordinary_bitSetReg .n2 .h s
  | .set_2_l => ordinary_bitSetReg .n2 .l s
  | .set_2_atHL => ordinary_bitSetHL .n2 s
  | .set_2_a => ordinary_bitSetReg .n2 .a s
  | .set_3_b => ordinary_bitSetReg .n3 .b s
  | .set_3_c => ordinary_bitSetReg .n3 .c s
  | .set_3_d => ordinary_bitSetReg .n3 .d s
  | .set_3_e => ordinary_bitSetReg .n3 .e s
  | .set_3_h => ordinary_bitSetReg .n3 .h s
  | .set_3_l => ordinary_bitSetReg .n3 .l s
  | .set_3_atHL => ordinary_bitSetHL .n3 s
  | .set_3_a => ordinary_bitSetReg .n3 .a s
  | .set_4_b => ordinary_bitSetReg .n4 .b s
  | .set_4_c => ordinary_bitSetReg .n4 .c s
  | .set_4_d => ordinary_bitSetReg .n4 .d s
  | .set_4_e => ordinary_bitSetReg .n4 .e s
  | .set_4_h => ordinary_bitSetReg .n4 .h s
  | .set_4_l => ordinary_bitSetReg .n4 .l s
  | .set_4_atHL => ordinary_bitSetHL .n4 s
  | .set_4_a => ordinary_bitSetReg .n4 .a s
  | .set_5_b => ordinary_bitSetReg .n5 .b s
  | .set_5_c => ordinary_bitSetReg .n5 .c s
  | .set_5_d => ordinary_bitSetReg .n5 .d s
  | .set_5_e => ordinary_bitSetReg .n5 .e s
  | .set_5_h => ordinary_bitSetReg .n5 .h s
  | .set_5_l => ordinary_bitSetReg .n5 .l s
  | .set_5_atHL => ordinary_bitSetHL .n5 s
  | .set_5_a => ordinary_bitSetReg .n5 .a s
  | .set_6_b => ordinary_bitSetReg .n6 .b s
  | .set_6_c => ordinary_bitSetReg .n6 .c s
  | .set_6_d => ordinary_bitSetReg .n6 .d s
  | .set_6_e => ordinary_bitSetReg .n6 .e s
  | .set_6_h => ordinary_bitSetReg .n6 .h s
  | .set_6_l => ordinary_bitSetReg .n6 .l s
  | .set_6_atHL => ordinary_bitSetHL .n6 s
  | .set_6_a => ordinary_bitSetReg .n6 .a s
  | .set_7_b => ordinary_bitSetReg .n7 .b s
  | .set_7_c => ordinary_bitSetReg .n7 .c s
  | .set_7_d => ordinary_bitSetReg .n7 .d s
  | .set_7_e => ordinary_bitSetReg .n7 .e s
  | .set_7_h => ordinary_bitSetReg .n7 .h s
  | .set_7_l => ordinary_bitSetReg .n7 .l s
  | .set_7_atHL => ordinary_bitSetHL .n7 s
  | .set_7_a => ordinary_bitSetReg .n7 .a s

end Sys2Proof.Machine
end

