-- ==== Sys2Proof/Laws/Handlers.lean ====
section
/-! SUPPORT. What the agents other than the CPU can change (R330): the timer three parts, the display controller seven, the
key event three. Each handler's next state is the old one with those parts replaced. -/

namespace Sys2Proof.Machine

/-! The timer. -/

/-- `t` is `s` with only the I/O array replaced. -/
def OnlyIo (s t : State) : Prop := t = { s with io := t.io }

theorem OnlyIo.refl (s : State) : OnlyIo s s := rfl

theorem OnlyIo.trans {s t u : State} (h : OnlyIo s t) (k : OnlyIo t u) : OnlyIo s u := by
  unfold OnlyIo at *
  rw [k, h]

theorem OnlyIo.setIo (s : State) (off : Nat) (v : Byte) : OnlyIo s (s.setIo off v) := rfl

theorem OnlyIo.repeat {f : State → State} (h : ∀ s, OnlyIo s (f s)) (n : Nat) (s : State) : OnlyIo s (Nat.repeat f n s) := by
  induction n with
  | zero => exact OnlyIo.refl s
  | succ n ih => exact ih.trans (h _)

theorem OnlyIo.timaTick (s : State) : OnlyIo s (timaTick s) := by
  unfold Machine.timaTick
  split <;> rfl

/-- What the timer changes (R330). -/
def OnlyTimer (s t : State) : Prop := t = { s with io := t.io, divSub := t.divSub, timaSub := t.timaSub }

theorem OnlyTimer.trans {s t u : State} (h : OnlyTimer s t) (k : OnlyTimer t u) : OnlyTimer s u := by
  unfold OnlyTimer at *
  rw [k, h]

theorem OnlyIo.onlyTimer {s t : State} (h : OnlyIo s t) : OnlyTimer s t := by
  unfold OnlyIo at h
  rw [h]
  rfl

theorem advanceDiv_only (delta : Nat) (s : State) : OnlyTimer s (advanceDiv delta s) :=
  ((OnlyIo.repeat (f := divTick) (fun _ => rfl) ((s.divSub + delta) / 256) s).onlyTimer).trans rfl

theorem advanceTima_only (delta : Nat) (s : State) : OnlyTimer s (advanceTima delta s) := by
  unfold advanceTima
  split
  · exact ((OnlyIo.repeat OnlyIo.timaTick ((s.timaSub + delta) / s.timerPeriod) s).onlyTimer).trans rfl
  · rfl

theorem timerAdvance_only (delta : Nat) (s : State) : OnlyTimer s (timerAdvance delta s) :=
  (advanceDiv_only delta s).trans (advanceTima_only delta _)

/-! The display controller. -/

/-- What the display controller changes (R330). -/
def OnlyDisplay (s t : State) : Prop :=
  t = { s with
    io := t.io, mode := t.mode, wlc := t.wlc, bgidx := t.bgidx, fb := t.fb, entries := t.entries, modelFault := t.modelFault }

theorem OnlyDisplay.refl (s : State) : OnlyDisplay s s := rfl

theorem OnlyDisplay.trans {s t u : State} (h : OnlyDisplay s t) (k : OnlyDisplay t u) : OnlyDisplay s u := by
  unfold OnlyDisplay at *
  rw [k, h]

theorem schedPush_only (s : State) (t : Nat) (k : EventKind) : OnlyDisplay s (schedPush s t k) := by
  unfold schedPush
  split; · rfl
  split; · rfl
  split <;> rfl

theorem setLy_only (s : State) (v : Byte) : OnlyDisplay s (setLy s v) := by
  unfold setLy
  dsimp only
  split <;> rfl

theorem statIrq_only (s : State) (k : Nat) : OnlyDisplay s (statIrq s k) := by
  unfold statIrq
  split <;> rfl

theorem enterOamScan_only (t : Nat) (s : State) : OnlyDisplay s (enterOamScan t s) :=
  (OnlyDisplay.trans (t := { s with mode := .oamScan }) rfl (statIrq_only _ 5)).trans (schedPush_only _ _ _)

theorem enterVBlank_only (t : Nat) (s : State) : OnlyDisplay s (enterVBlank t s) :=
  (OnlyDisplay.trans (t := State.raiseIf { s with mode := .vBlank } 0x01) rfl (statIrq_only _ 4)).trans
    (schedPush_only _ _ _)

theorem renderScanline_only (s : State) : OnlyDisplay s (renderScanline s) := rfl

theorem ppuEvent_only (t : Nat) (s : State) : OnlyDisplay s (ppuEvent t s) := by
  unfold ppuEvent
  split
  · split
    · exact (OnlyDisplay.trans (t := { s with mode := .pixelTransfer }) rfl (renderScanline_only _)).trans
        (schedPush_only _ _ _)
    · exact (OnlyDisplay.trans (t := { s with mode := .hBlank }) rfl (statIrq_only _ 3)).trans (schedPush_only _ _ _)
    · unfold endHBlank
      dsimp only
      split
      · exact (setLy_only s _).trans (enterVBlank_only t _)
      · exact (setLy_only s _).trans (enterOamScan_only t _)
    · unfold endVBlankLine
      split
      · exact ((setLy_only s 0).trans (OnlyDisplay.trans (t := { setLy s 0 with wlc := 0 }) rfl (OnlyDisplay.refl _))).trans
          (enterOamScan_only t _)
      · exact (setLy_only s _).trans (schedPush_only _ _ _)
  · rfl

/-! Any handler. -/

/-- What the handlers of a machine step change (R330). -/
def OnlyHandlers (s t : State) : Prop :=
  t = { s with
    io := t.io, divSub := t.divSub, timaSub := t.timaSub, mode := t.mode, wlc := t.wlc, bgidx := t.bgidx, fb := t.fb
    entries := t.entries, modelFault := t.modelFault }

theorem OnlyHandlers.trans {s t u : State} (h : OnlyHandlers s t) (k : OnlyHandlers t u) : OnlyHandlers s u := by
  unfold OnlyHandlers at *
  rw [k, h]

theorem OnlyDisplay.onlyHandlers {s t : State} (h : OnlyDisplay s t) : OnlyHandlers s t := by
  unfold OnlyDisplay at h
  rw [h]
  rfl

theorem OnlyTimer.onlyHandlers {s t : State} (h : OnlyTimer s t) : OnlyHandlers s t := by
  unfold OnlyTimer at h
  rw [h]
  rfl

theorem handleEvent_only (ev : Event) (s : State) : OnlyHandlers s (handleEvent ev s) := by
  unfold handleEvent
  split
  · rfl
  · rfl
  · exact (ppuEvent_only ev.time s).onlyHandlers
  · exact (timerAdvance_only s.cycles s).onlyHandlers
  · rfl

theorem runDue_only (fuel : Nat) (s : State) : OnlyHandlers s (runDue fuel s) := by
  induction fuel generalizing s with
  | zero => rfl
  | succ fuel ih =>
    unfold runDue
    split
    · rfl
    · split
      · rename_i ev rest _ _
        exact (OnlyHandlers.trans (t := { s with entries := rest }) rfl (handleEvent_only ev _)).trans (ih _)
      · rfl

/-- What the part of a machine step after `CpuStep` changes, the key event apart: what the handlers change, and `now`. -/
theorem passTime_only (s : State) : OnlyHandlers { s with now := s.now + s.cycles } (passTime s) :=
  ((schedPush_only _ _ _).onlyHandlers).trans (runDue_only _ _)

theorem hostKey_only (s : State) :
    hostKey s = { s with io := (hostKey s).io, pressed := (hostKey s).pressed, keyInput := (hostKey s).keyInput } := by
  unfold hostKey
  split
  · rfl
  · rfl
  · unfold applyKey
    dsimp only
    split <;> rfl

/-- A property kept by popping and handling one event is kept by the loop. -/
theorem runDue_keeps {P : State → Prop} (h : ∀ (ev : Event) (rest : List Event) (s : State), P s → s.entries = ev :: rest →
      ev.time ≤ s.now → s.modelFault = none → P (handleEvent ev { s with entries := rest }))
    (fuel : Nat) {s : State} (hs : P s) : P (runDue fuel s) := by
  induction fuel generalizing s with
  | zero => exact hs
  | succ fuel ih =>
    unfold runDue
    split
    · exact hs
    · rename_i ev rest he
      split
      · rename_i hc
        simp only [Bool.and_eq_true, decide_eq_true_eq, Option.isNone_iff_eq_none] at hc
        exact ih (h ev rest s hs he hc.1 hc.2)
      · exact hs

end Sys2Proof.Machine
end

