-- ==== Sys2Proof/Laws/Host.lean ====
section
/-! SUPPORT. What power-on, Reset and LoadROM can answer, and what the reset state holds. -/

namespace Sys2Proof.Machine

@[simp] theorem resetWith_cfg (cfg : Config) (cart : Cartridge) : (resetWith cfg cart).cfg = cfg := by
  unfold resetWith
  split <;> rfl

@[simp] theorem resetWith_cart (cfg : Config) (cart : Cartridge) : (resetWith cfg cart).cart = cart := by
  unfold resetWith
  split <;> rfl

@[simp] theorem resetWith_cartRam (cfg : Config) (cart : Cartridge) : (resetWith cfg cart).cartRam = cfg.cartRamInit := by
  unfold resetWith
  split <;> rfl

/-- Power-on answers a next state exactly where the image is not empty and its type byte selects a variant, and then the
reset state of that variant (R101, R460). -/
theorem powerOn_next_iff {cfg : Config} {t : State} :
    powerOn cfg = .next t ↔
      cfg.romLength ≠ 0 ∧ ∃ cart, cartridgeOfType (headerByte cfg 0x147) = some cart ∧ t = resetWith cfg cart := by
  unfold powerOn
  split
  · simp [*]
  · split <;> simp [*, eq_comm]

/-- Reset is power-on at the same parameters, with the key input kept (R462). -/
theorem hostReset_next_iff {s t : State} :
    hostReset s = .next t ↔ ∃ u, powerOn s.cfg = .next u ∧ t = { u with keyInput := s.keyInput } := by
  unfold hostReset
  split <;> simp [*, eq_comm]

/-- The type byte that LoadROM finds is the image's, 0 where the image is shorter (R101). -/
theorem headerByte_withRom (cfg : Config) (image : List Byte) (saveFile : Memory) (off : Nat) :
    headerByte (Config.withRom cfg image saveFile) off = image.getD off 0 := by
  unfold headerByte Config.withRom
  dsimp only
  rw [Memory.read_ofBytes]
  split
  · rfl
  · rw [List.getD_eq_getElem?_getD, List.getElem?_eq_none (by omega)]
    rfl

end Sys2Proof.Machine
end

