-- ==== Sys2Proof/Laws/Loop.lean ====
section
/-! SUPPORT. The loop of a machine step (R331, R346): what one turn uses up, and that the loop ends with nothing due. -/

namespace Sys2Proof.Machine

/-- The number of turns that entries due at `now` can take, as `dueFuel` counts them. -/
def dueSum (now : Nat) (es : List Event) : Nat := (es.map (fun e => now + 1 - e.time)).sum

theorem dueSum_insertEvent (now : Nat) (ev : Event) (es : List Event) :
    dueSum now (insertEvent ev es) = (now + 1 - ev.time) + dueSum now es := by
  unfold dueSum
  induction es with
  | nil => simp [insertEvent]
  | cons e es ih =>
    unfold insertEvent
    split
    · simp
    · simp only [List.map_cons, List.sum_cons, ih]
      omega

theorem dueFuel_schedPush (s : State) (t : Nat) (k : EventKind) :
    dueFuel (schedPush s t k) ≤ (s.now + 1 - t) + dueFuel s := by
  unfold schedPush
  split
  · omega
  · split
    · exact Nat.le_add_left _ _
    · split
      · exact Nat.le_add_left _ _
      · exact Nat.le_of_eq (dueSum_insertEvent s.now ⟨t, k⟩ s.entries)

/-- A PPU event for time `t` schedules at most one successor, at least 80 cycles after `t` (R349). -/
theorem dueFuel_ppuEvent (t : Nat) (s : State) : dueFuel (ppuEvent t s) ≤ (s.now + 1 - (t + 80)) + dueFuel s := by
  have push (u : State) (d : Nat) (hd : 80 ≤ d) (hn : u.now = s.now) (he : u.entries = s.entries) :
      dueFuel (schedPush u (t + d) .ppu) ≤ (s.now + 1 - (t + 80)) + dueFuel s := by
    have h := dueFuel_schedPush u (t + d) .ppu
    have hu : dueFuel u = dueFuel s := by unfold dueFuel; rw [hn, he]
    rw [hu, hn] at h
    omega
  have ly (v : Byte) : (setLy s v).now = s.now ∧ (setLy s v).entries = s.entries := by
    rw [setLy_io_only]
    exact ⟨rfl, rfl⟩
  have stat (u : State) (k : Nat) : (statIrq u k).now = u.now ∧ (statIrq u k).entries = u.entries := by
    rw [statIrq_io_only]
    exact ⟨rfl, rfl⟩
  unfold ppuEvent
  split
  · split
    · exact push _ _ (by omega) rfl rfl
    · exact push _ _ (by omega) (stat _ _).1 (stat _ _).2
    · unfold endHBlank
      dsimp only
      split
      · exact push _ _ (by omega) ((stat _ _).1.trans (ly _).1) ((stat _ _).2.trans (ly _).2)
      · exact push _ _ (by omega) ((stat _ _).1.trans (ly _).1) ((stat _ _).2.trans (ly _).2)
    · unfold endVBlankLine
      split
      · exact push _ _ (by omega) ((stat _ _).1.trans (ly _).1) ((stat _ _).2.trans (ly _).2)
      · exact push _ _ (by omega) (ly _).1 (ly _).2
  · omega

/-- Popping and handling a due entry uses up at least one turn of the loop. -/
theorem dueFuel_handleEvent {ev : Event} {rest : List Event} {s : State} (he : s.entries = ev :: rest) (h : ev.time ≤ s.now) :
    dueFuel (handleEvent ev { s with entries := rest }) < dueFuel s := by
  have hs : dueFuel s = (s.now + 1 - ev.time) + dueFuel { s with entries := rest } := by
    unfold dueFuel
    rw [he]
    simp
  have hp := dueFuel_ppuEvent ev.time { s with entries := rest }
  have ht : dueFuel (timerAdvance s.cycles { s with entries := rest }) = dueFuel { s with entries := rest } := by
    rw [timerAdvance_only]
    rfl
  unfold handleEvent
  split
  · omega
  · omega
  · dsimp only at hp
    omega
  · exact Nat.lt_of_le_of_lt (Nat.le_of_eq ht) (by omega)
  · exact Nat.lt_of_lt_of_le (Nat.lt_succ_self _) (show dueFuel { s with entries := rest } + 1 ≤ dueFuel s by omega)

/-- With `dueFuel` turns the loop of R331 ends with a first entry that is not due, or a latched model fault. -/
theorem runDue_ends {fuel : Nat} {s : State} (h : dueFuel s ≤ fuel) :
    ((runDue fuel s).modelFault ≠ none)
      ∨ ∀ ev rest, (runDue fuel s).entries = ev :: rest → (runDue fuel s).now < ev.time := by
  induction fuel generalizing s with
  | zero =>
    refine .inr fun ev rest he => ?_
    have he' : s.entries = ev :: rest := he
    show s.now < ev.time
    unfold dueFuel at h
    rw [he'] at h
    simp at h
    omega
  | succ fuel ih =>
    unfold runDue
    split
    · rename_i e
      exact .inr fun ev rest he => by rw [e] at he; cases he
    · rename_i ev rest e
      split
      · rename_i hc
        simp only [Bool.and_eq_true, decide_eq_true_eq] at hc
        exact ih (by have := dueFuel_handleEvent e hc.1; omega)
      · rename_i hc
        simp only [Bool.and_eq_true, decide_eq_true_eq, Option.isNone_iff_eq_none] at hc
        by_cases hm : s.modelFault = none
        · exact .inr fun ev' rest' he => by
            rw [e] at he
            cases he
            exact Nat.not_le.mp fun hd => hc ⟨hd, hm⟩
        · exact .inl hm

end Sys2Proof.Machine
end

