-- ==== Sys2Proof/Laws/PerInstr.lean ====
section
/-! SUPPORT. Laws said of every instruction as syntax, one lemma per constructor. -/

namespace Sys2Proof.Laws

/-- An instruction's encoding is as long as its first byte says (R140). -/
def LengthFromOpcode.Statement (i : Instr) : Prop := (encode i).length = opcodeLength ((encode i).headD 0)

/-- From the bytes of an instruction, the statement about it. -/
theorem length_of_bytes {i : Instr} {b : Byte} {bs : List Byte} (h : encode i = b :: bs)
    (hl : bs.length + 1 = opcodeLength b) : LengthFromOpcode.Statement i := by
  rw [LengthFromOpcode.Statement, h]; exact hl

theorem LengthFromOpcode.nop : LengthFromOpcode.Statement (.nop) := length_of_bytes rfl rfl
theorem LengthFromOpcode.ld_bc_d16 (nn : Word) : LengthFromOpcode.Statement (.ld_bc_d16 nn) := length_of_bytes rfl rfl
theorem LengthFromOpcode.ld_atBC_a : LengthFromOpcode.Statement (.ld_atBC_a) := length_of_bytes rfl rfl
theorem LengthFromOpcode.inc_bc : LengthFromOpcode.Statement (.inc_bc) := length_of_bytes rfl rfl
theorem LengthFromOpcode.inc_b : LengthFromOpcode.Statement (.inc_b) := length_of_bytes rfl rfl
theorem LengthFromOpcode.dec_b : LengthFromOpcode.Statement (.dec_b) := length_of_bytes rfl rfl
theorem LengthFromOpcode.ld_b_d8 (n : Byte) : LengthFromOpcode.Statement (.ld_b_d8 n) := length_of_bytes rfl rfl
theorem LengthFromOpcode.rlca : LengthFromOpcode.Statement (.rlca) := length_of_bytes rfl rfl
theorem LengthFromOpcode.ld_atA16_sp (nn : Word) : LengthFromOpcode.Statement (.ld_atA16_sp nn) := length_of_bytes rfl rfl
theorem LengthFromOpcode.add_hl_bc : LengthFromOpcode.Statement (.add_hl_bc) := length_of_bytes rfl rfl
theorem LengthFromOpcode.ld_a_atBC : LengthFromOpcode.Statement (.ld_a_atBC) := length_of_bytes rfl rfl
theorem LengthFromOpcode.dec_bc : LengthFromOpcode.Statement (.dec_bc) := length_of_bytes rfl rfl
theorem LengthFromOpcode.inc_c : LengthFromOpcode.Statement (.inc_c) := length_of_bytes rfl rfl
theorem LengthFromOpcode.dec_c : LengthFromOpcode.Statement (.dec_c) := length_of_bytes rfl rfl
theorem LengthFromOpcode.ld_c_d8 (n : Byte) : LengthFromOpcode.Statement (.ld_c_d8 n) := length_of_bytes rfl rfl
theorem LengthFromOpcode.rrca : LengthFromOpcode.Statement (.rrca) := length_of_bytes rfl rfl
theorem LengthFromOpcode.stop (pad : Byte) : LengthFromOpcode.Statement (.stop pad) := length_of_bytes rfl rfl
theorem LengthFromOpcode.ld_de_d16 (nn : Word) : LengthFromOpcode.Statement (.ld_de_d16 nn) := length_of_bytes rfl rfl
theorem LengthFromOpcode.ld_atDE_a : LengthFromOpcode.Statement (.ld_atDE_a) := length_of_bytes rfl rfl
theorem LengthFromOpcode.inc_de : LengthFromOpcode.Statement (.inc_de) := length_of_bytes rfl rfl
theorem LengthFromOpcode.inc_d : LengthFromOpcode.Statement (.inc_d) := length_of_bytes rfl rfl
theorem LengthFromOpcode.dec_d : LengthFromOpcode.Statement (.dec_d) := length_of_bytes rfl rfl
theorem LengthFromOpcode.ld_d_d8 (n : Byte) : LengthFromOpcode.Statement (.ld_d_d8 n) := length_of_bytes rfl rfl
theorem LengthFromOpcode.rla : LengthFromOpcode.Statement (.rla) := length_of_bytes rfl rfl
theorem LengthFromOpcode.jr_e8 (e : Byte) : LengthFromOpcode.Statement (.jr_e8 e) := length_of_bytes rfl rfl
theorem LengthFromOpcode.add_hl_de : LengthFromOpcode.Statement (.add_hl_de) := length_of_bytes rfl rfl
theorem LengthFromOpcode.ld_a_atDE : LengthFromOpcode.Statement (.ld_a_atDE) := length_of_bytes rfl rfl
theorem LengthFromOpcode.dec_de : LengthFromOpcode.Statement (.dec_de) := length_of_bytes rfl rfl
theorem LengthFromOpcode.inc_e : LengthFromOpcode.Statement (.inc_e) := length_of_bytes rfl rfl
theorem LengthFromOpcode.dec_e : LengthFromOpcode.Statement (.dec_e) := length_of_bytes rfl rfl
theorem LengthFromOpcode.ld_e_d8 (n : Byte) : LengthFromOpcode.Statement (.ld_e_d8 n) := length_of_bytes rfl rfl
theorem LengthFromOpcode.rra : LengthFromOpcode.Statement (.rra) := length_of_bytes rfl rfl
theorem LengthFromOpcode.jr_nz_e8 (e : Byte) : LengthFromOpcode.Statement (.jr_nz_e8 e) := length_of_bytes rfl rfl
theorem LengthFromOpcode.ld_hl_d16 (nn : Word) : LengthFromOpcode.Statement (.ld_hl_d16 nn) := length_of_bytes rfl rfl
theorem LengthFromOpcode.ld_atHLinc_a : LengthFromOpcode.Statement (.ld_atHLinc_a) := length_of_bytes rfl rfl
theorem LengthFromOpcode.inc_hl : LengthFromOpcode.Statement (.inc_hl) := length_of_bytes rfl rfl
theorem LengthFromOpcode.inc_h : LengthFromOpcode.Statement (.inc_h) := length_of_bytes rfl rfl
theorem LengthFromOpcode.dec_h : LengthFromOpcode.Statement (.dec_h) := length_of_bytes rfl rfl
theorem LengthFromOpcode.ld_h_d8 (n : Byte) : LengthFromOpcode.Statement (.ld_h_d8 n) := length_of_bytes rfl rfl
theorem LengthFromOpcode.daa : LengthFromOpcode.Statement (.daa) := length_of_bytes rfl rfl
theorem LengthFromOpcode.jr_z_e8 (e : Byte) : LengthFromOpcode.Statement (.jr_z_e8 e) := length_of_bytes rfl rfl
theorem LengthFromOpcode.add_hl_hl : LengthFromOpcode.Statement (.add_hl_hl) := length_of_bytes rfl rfl
theorem LengthFromOpcode.ld_a_atHLinc : LengthFromOpcode.Statement (.ld_a_atHLinc) := length_of_bytes rfl rfl
theorem LengthFromOpcode.dec_hl : LengthFromOpcode.Statement (.dec_hl) := length_of_bytes rfl rfl
theorem LengthFromOpcode.inc_l : LengthFromOpcode.Statement (.inc_l) := length_of_bytes rfl rfl
theorem LengthFromOpcode.dec_l : LengthFromOpcode.Statement (.dec_l) := length_of_bytes rfl rfl
theorem LengthFromOpcode.ld_l_d8 (n : Byte) : LengthFromOpcode.Statement (.ld_l_d8 n) := length_of_bytes rfl rfl
theorem LengthFromOpcode.cpl : LengthFromOpcode.Statement (.cpl) := length_of_bytes rfl rfl
theorem LengthFromOpcode.jr_nc_e8 (e : Byte) : LengthFromOpcode.Statement (.jr_nc_e8 e) := length_of_bytes rfl rfl
theorem LengthFromOpcode.ld_sp_d16 (nn : Word) : LengthFromOpcode.Statement (.ld_sp_d16 nn) := length_of_bytes rfl rfl
theorem LengthFromOpcode.ld_atHLdec_a : LengthFromOpcode.Statement (.ld_atHLdec_a) := length_of_bytes rfl rfl
theorem LengthFromOpcode.inc_sp : LengthFromOpcode.Statement (.inc_sp) := length_of_bytes rfl rfl
theorem LengthFromOpcode.inc_atHL : LengthFromOpcode.Statement (.inc_atHL) := length_of_bytes rfl rfl
theorem LengthFromOpcode.dec_atHL : LengthFromOpcode.Statement (.dec_atHL) := length_of_bytes rfl rfl
theorem LengthFromOpcode.ld_atHL_d8 (n : Byte) : LengthFromOpcode.Statement (.ld_atHL_d8 n) := length_of_bytes rfl rfl
theorem LengthFromOpcode.scf : LengthFromOpcode.Statement (.scf) := length_of_bytes rfl rfl
theorem LengthFromOpcode.jr_c_e8 (e : Byte) : LengthFromOpcode.Statement (.jr_c_e8 e) := length_of_bytes rfl rfl
theorem LengthFromOpcode.add_hl_sp : LengthFromOpcode.Statement (.add_hl_sp) := length_of_bytes rfl rfl
theorem LengthFromOpcode.ld_a_atHLdec : LengthFromOpcode.Statement (.ld_a_atHLdec) := length_of_bytes rfl rfl
theorem LengthFromOpcode.dec_sp : LengthFromOpcode.Statement (.dec_sp) := length_of_bytes rfl rfl
theorem LengthFromOpcode.inc_a : LengthFromOpcode.Statement (.inc_a) := length_of_bytes rfl rfl
theorem LengthFromOpcode.dec_a : LengthFromOpcode.Statement (.dec_a) := length_of_bytes rfl rfl
theorem LengthFromOpcode.ld_a_d8 (n : Byte) : LengthFromOpcode.Statement (.ld_a_d8 n) := length_of_bytes rfl rfl
theorem LengthFromOpcode.ccf : LengthFromOpcode.Statement (.ccf) := length_of_bytes rfl rfl
theorem LengthFromOpcode.ld_b_b : LengthFromOpcode.Statement (.ld_b_b) := length_of_bytes rfl rfl
theorem LengthFromOpcode.ld_b_c : LengthFromOpcode.Statement (.ld_b_c) := length_of_bytes rfl rfl
theorem LengthFromOpcode.ld_b_d : LengthFromOpcode.Statement (.ld_b_d) := length_of_bytes rfl rfl
theorem LengthFromOpcode.ld_b_e : LengthFromOpcode.Statement (.ld_b_e) := length_of_bytes rfl rfl
theorem LengthFromOpcode.ld_b_h : LengthFromOpcode.Statement (.ld_b_h) := length_of_bytes rfl rfl
theorem LengthFromOpcode.ld_b_l : LengthFromOpcode.Statement (.ld_b_l) := length_of_bytes rfl rfl
theorem LengthFromOpcode.ld_b_atHL : LengthFromOpcode.Statement (.ld_b_atHL) := length_of_bytes rfl rfl
theorem LengthFromOpcode.ld_b_a : LengthFromOpcode.Statement (.ld_b_a) := length_of_bytes rfl rfl
theorem LengthFromOpcode.ld_c_b : LengthFromOpcode.Statement (.ld_c_b) := length_of_bytes rfl rfl
theorem LengthFromOpcode.ld_c_c : LengthFromOpcode.Statement (.ld_c_c) := length_of_bytes rfl rfl
theorem LengthFromOpcode.ld_c_d : LengthFromOpcode.Statement (.ld_c_d) := length_of_bytes rfl rfl
theorem LengthFromOpcode.ld_c_e : LengthFromOpcode.Statement (.ld_c_e) := length_of_bytes rfl rfl
theorem LengthFromOpcode.ld_c_h : LengthFromOpcode.Statement (.ld_c_h) := length_of_bytes rfl rfl
theorem LengthFromOpcode.ld_c_l : LengthFromOpcode.Statement (.ld_c_l) := length_of_bytes rfl rfl
theorem LengthFromOpcode.ld_c_atHL : LengthFromOpcode.Statement (.ld_c_atHL) := length_of_bytes rfl rfl
theorem LengthFromOpcode.ld_c_a : LengthFromOpcode.Statement (.ld_c_a) := length_of_bytes rfl rfl
theorem LengthFromOpcode.ld_d_b : LengthFromOpcode.Statement (.ld_d_b) := length_of_bytes rfl rfl
theorem LengthFromOpcode.ld_d_c : LengthFromOpcode.Statement (.ld_d_c) := length_of_bytes rfl rfl
theorem LengthFromOpcode.ld_d_d : LengthFromOpcode.Statement (.ld_d_d) := length_of_bytes rfl rfl
theorem LengthFromOpcode.ld_d_e : LengthFromOpcode.Statement (.ld_d_e) := length_of_bytes rfl rfl
theorem LengthFromOpcode.ld_d_h : LengthFromOpcode.Statement (.ld_d_h) := length_of_bytes rfl rfl
theorem LengthFromOpcode.ld_d_l : LengthFromOpcode.Statement (.ld_d_l) := length_of_bytes rfl rfl
theorem LengthFromOpcode.ld_d_atHL : LengthFromOpcode.Statement (.ld_d_atHL) := length_of_bytes rfl rfl
theorem LengthFromOpcode.ld_d_a : LengthFromOpcode.Statement (.ld_d_a) := length_of_bytes rfl rfl
theorem LengthFromOpcode.ld_e_b : LengthFromOpcode.Statement (.ld_e_b) := length_of_bytes rfl rfl
theorem LengthFromOpcode.ld_e_c : LengthFromOpcode.Statement (.ld_e_c) := length_of_bytes rfl rfl
theorem LengthFromOpcode.ld_e_d : LengthFromOpcode.Statement (.ld_e_d) := length_of_bytes rfl rfl
theorem LengthFromOpcode.ld_e_e : LengthFromOpcode.Statement (.ld_e_e) := length_of_bytes rfl rfl
theorem LengthFromOpcode.ld_e_h : LengthFromOpcode.Statement (.ld_e_h) := length_of_bytes rfl rfl
theorem LengthFromOpcode.ld_e_l : LengthFromOpcode.Statement (.ld_e_l) := length_of_bytes rfl rfl
theorem LengthFromOpcode.ld_e_atHL : LengthFromOpcode.Statement (.ld_e_atHL) := length_of_bytes rfl rfl
theorem LengthFromOpcode.ld_e_a : LengthFromOpcode.Statement (.ld_e_a) := length_of_bytes rfl rfl
theorem LengthFromOpcode.ld_h_b : LengthFromOpcode.Statement (.ld_h_b) := length_of_bytes rfl rfl
theorem LengthFromOpcode.ld_h_c : LengthFromOpcode.Statement (.ld_h_c) := length_of_bytes rfl rfl
theorem LengthFromOpcode.ld_h_d : LengthFromOpcode.Statement (.ld_h_d) := length_of_bytes rfl rfl
theorem LengthFromOpcode.ld_h_e : LengthFromOpcode.Statement (.ld_h_e) := length_of_bytes rfl rfl
theorem LengthFromOpcode.ld_h_h : LengthFromOpcode.Statement (.ld_h_h) := length_of_bytes rfl rfl
theorem LengthFromOpcode.ld_h_l : LengthFromOpcode.Statement (.ld_h_l) := length_of_bytes rfl rfl
theorem LengthFromOpcode.ld_h_atHL : LengthFromOpcode.Statement (.ld_h_atHL) := length_of_bytes rfl rfl
theorem LengthFromOpcode.ld_h_a : LengthFromOpcode.Statement (.ld_h_a) := length_of_bytes rfl rfl
theorem LengthFromOpcode.ld_l_b : LengthFromOpcode.Statement (.ld_l_b) := length_of_bytes rfl rfl
theorem LengthFromOpcode.ld_l_c : LengthFromOpcode.Statement (.ld_l_c) := length_of_bytes rfl rfl
theorem LengthFromOpcode.ld_l_d : LengthFromOpcode.Statement (.ld_l_d) := length_of_bytes rfl rfl
theorem LengthFromOpcode.ld_l_e : LengthFromOpcode.Statement (.ld_l_e) := length_of_bytes rfl rfl
theorem LengthFromOpcode.ld_l_h : LengthFromOpcode.Statement (.ld_l_h) := length_of_bytes rfl rfl
theorem LengthFromOpcode.ld_l_l : LengthFromOpcode.Statement (.ld_l_l) := length_of_bytes rfl rfl
theorem LengthFromOpcode.ld_l_atHL : LengthFromOpcode.Statement (.ld_l_atHL) := length_of_bytes rfl rfl
theorem LengthFromOpcode.ld_l_a : LengthFromOpcode.Statement (.ld_l_a) := length_of_bytes rfl rfl
theorem LengthFromOpcode.ld_atHL_b : LengthFromOpcode.Statement (.ld_atHL_b) := length_of_bytes rfl rfl
theorem LengthFromOpcode.ld_atHL_c : LengthFromOpcode.Statement (.ld_atHL_c) := length_of_bytes rfl rfl
theorem LengthFromOpcode.ld_atHL_d : LengthFromOpcode.Statement (.ld_atHL_d) := length_of_bytes rfl rfl
theorem LengthFromOpcode.ld_atHL_e : LengthFromOpcode.Statement (.ld_atHL_e) := length_of_bytes rfl rfl
theorem LengthFromOpcode.ld_atHL_h : LengthFromOpcode.Statement (.ld_atHL_h) := length_of_bytes rfl rfl
theorem LengthFromOpcode.ld_atHL_l : LengthFromOpcode.Statement (.ld_atHL_l) := length_of_bytes rfl rfl
theorem LengthFromOpcode.halt : LengthFromOpcode.Statement (.halt) := length_of_bytes rfl rfl
theorem LengthFromOpcode.ld_atHL_a : LengthFromOpcode.Statement (.ld_atHL_a) := length_of_bytes rfl rfl
theorem LengthFromOpcode.ld_a_b : LengthFromOpcode.Statement (.ld_a_b) := length_of_bytes rfl rfl
theorem LengthFromOpcode.ld_a_c : LengthFromOpcode.Statement (.ld_a_c) := length_of_bytes rfl rfl
theorem LengthFromOpcode.ld_a_d : LengthFromOpcode.Statement (.ld_a_d) := length_of_bytes rfl rfl
theorem LengthFromOpcode.ld_a_e : LengthFromOpcode.Statement (.ld_a_e) := length_of_bytes rfl rfl
theorem LengthFromOpcode.ld_a_h : LengthFromOpcode.Statement (.ld_a_h) := length_of_bytes rfl rfl
theorem LengthFromOpcode.ld_a_l : LengthFromOpcode.Statement (.ld_a_l) := length_of_bytes rfl rfl
theorem LengthFromOpcode.ld_a_atHL : LengthFromOpcode.Statement (.ld_a_atHL) := length_of_bytes rfl rfl
theorem LengthFromOpcode.ld_a_a : LengthFromOpcode.Statement (.ld_a_a) := length_of_bytes rfl rfl
theorem LengthFromOpcode.add_a_b : LengthFromOpcode.Statement (.add_a_b) := length_of_bytes rfl rfl
theorem LengthFromOpcode.add_a_c : LengthFromOpcode.Statement (.add_a_c) := length_of_bytes rfl rfl
theorem LengthFromOpcode.add_a_d : LengthFromOpcode.Statement (.add_a_d) := length_of_bytes rfl rfl
theorem LengthFromOpcode.add_a_e : LengthFromOpcode.Statement (.add_a_e) := length_of_bytes rfl rfl
theorem LengthFromOpcode.add_a_h : LengthFromOpcode.Statement (.add_a_h) := length_of_bytes rfl rfl
theorem LengthFromOpcode.add_a_l : LengthFromOpcode.Statement (.add_a_l) := length_of_bytes rfl rfl
theorem LengthFromOpcode.add_a_atHL : LengthFromOpcode.Statement (.add_a_atHL) := length_of_bytes rfl rfl
theorem LengthFromOpcode.add_a_a : LengthFromOpcode.Statement (.add_a_a) := length_of_bytes rfl rfl
theorem LengthFromOpcode.adc_a_b : LengthFromOpcode.Statement (.adc_a_b) := length_of_bytes rfl rfl
theorem LengthFromOpcode.adc_a_c : LengthFromOpcode.Statement (.adc_a_c) := length_of_bytes rfl rfl
theorem LengthFromOpcode.adc_a_d : LengthFromOpcode.Statement (.adc_a_d) := length_of_bytes rfl rfl
theorem LengthFromOpcode.adc_a_e : LengthFromOpcode.Statement (.adc_a_e) := length_of_bytes rfl rfl
theorem LengthFromOpcode.adc_a_h : LengthFromOpcode.Statement (.adc_a_h) := length_of_bytes rfl rfl
theorem LengthFromOpcode.adc_a_l : LengthFromOpcode.Statement (.adc_a_l) := length_of_bytes rfl rfl
theorem LengthFromOpcode.adc_a_atHL : LengthFromOpcode.Statement (.adc_a_atHL) := length_of_bytes rfl rfl
theorem LengthFromOpcode.adc_a_a : LengthFromOpcode.Statement (.adc_a_a) := length_of_bytes rfl rfl
theorem LengthFromOpcode.sub_b : LengthFromOpcode.Statement (.sub_b) := length_of_bytes rfl rfl
theorem LengthFromOpcode.sub_c : LengthFromOpcode.Statement (.sub_c) := length_of_bytes rfl rfl
theorem LengthFromOpcode.sub_d : LengthFromOpcode.Statement (.sub_d) := length_of_bytes rfl rfl
theorem LengthFromOpcode.sub_e : LengthFromOpcode.Statement (.sub_e) := length_of_bytes rfl rfl
theorem LengthFromOpcode.sub_h : LengthFromOpcode.Statement (.sub_h) := length_of_bytes rfl rfl
theorem LengthFromOpcode.sub_l : LengthFromOpcode.Statement (.sub_l) := length_of_bytes rfl rfl
theorem LengthFromOpcode.sub_atHL : LengthFromOpcode.Statement (.sub_atHL) := length_of_bytes rfl rfl
theorem LengthFromOpcode.sub_a : LengthFromOpcode.Statement (.sub_a) := length_of_bytes rfl rfl
theorem LengthFromOpcode.sbc_a_b : LengthFromOpcode.Statement (.sbc_a_b) := length_of_bytes rfl rfl
theorem LengthFromOpcode.sbc_a_c : LengthFromOpcode.Statement (.sbc_a_c) := length_of_bytes rfl rfl
theorem LengthFromOpcode.sbc_a_d : LengthFromOpcode.Statement (.sbc_a_d) := length_of_bytes rfl rfl
theorem LengthFromOpcode.sbc_a_e : LengthFromOpcode.Statement (.sbc_a_e) := length_of_bytes rfl rfl
theorem LengthFromOpcode.sbc_a_h : LengthFromOpcode.Statement (.sbc_a_h) := length_of_bytes rfl rfl
theorem LengthFromOpcode.sbc_a_l : LengthFromOpcode.Statement (.sbc_a_l) := length_of_bytes rfl rfl
theorem LengthFromOpcode.sbc_a_atHL : LengthFromOpcode.Statement (.sbc_a_atHL) := length_of_bytes rfl rfl
theorem LengthFromOpcode.sbc_a_a : LengthFromOpcode.Statement (.sbc_a_a) := length_of_bytes rfl rfl
theorem LengthFromOpcode.and_b : LengthFromOpcode.Statement (.and_b) := length_of_bytes rfl rfl
theorem LengthFromOpcode.and_c : LengthFromOpcode.Statement (.and_c) := length_of_bytes rfl rfl
theorem LengthFromOpcode.and_d : LengthFromOpcode.Statement (.and_d) := length_of_bytes rfl rfl
theorem LengthFromOpcode.and_e : LengthFromOpcode.Statement (.and_e) := length_of_bytes rfl rfl
theorem LengthFromOpcode.and_h : LengthFromOpcode.Statement (.and_h) := length_of_bytes rfl rfl
theorem LengthFromOpcode.and_l : LengthFromOpcode.Statement (.and_l) := length_of_bytes rfl rfl
theorem LengthFromOpcode.and_atHL : LengthFromOpcode.Statement (.and_atHL) := length_of_bytes rfl rfl
theorem LengthFromOpcode.and_a : LengthFromOpcode.Statement (.and_a) := length_of_bytes rfl rfl
theorem LengthFromOpcode.xor_b : LengthFromOpcode.Statement (.xor_b) := length_of_bytes rfl rfl
theorem LengthFromOpcode.xor_c : LengthFromOpcode.Statement (.xor_c) := length_of_bytes rfl rfl
theorem LengthFromOpcode.xor_d : LengthFromOpcode.Statement (.xor_d) := length_of_bytes rfl rfl
theorem LengthFromOpcode.xor_e : LengthFromOpcode.Statement (.xor_e) := length_of_bytes rfl rfl
theorem LengthFromOpcode.xor_h : LengthFromOpcode.Statement (.xor_h) := length_of_bytes rfl rfl
theorem LengthFromOpcode.xor_l : LengthFromOpcode.Statement (.xor_l) := length_of_bytes rfl rfl
theorem LengthFromOpcode.xor_atHL : LengthFromOpcode.Statement (.xor_atHL) := length_of_bytes rfl rfl
theorem LengthFromOpcode.xor_a : LengthFromOpcode.Statement (.xor_a) := length_of_bytes rfl rfl
theorem LengthFromOpcode.or_b : LengthFromOpcode.Statement (.or_b) := length_of_bytes rfl rfl
theorem LengthFromOpcode.or_c : LengthFromOpcode.Statement (.or_c) := length_of_bytes rfl rfl
theorem LengthFromOpcode.or_d : LengthFromOpcode.Statement (.or_d) := length_of_bytes rfl rfl
theorem LengthFromOpcode.or_e : LengthFromOpcode.Statement (.or_e) := length_of_bytes rfl rfl
theorem LengthFromOpcode.or_h : LengthFromOpcode.Statement (.or_h) := length_of_bytes rfl rfl
theorem LengthFromOpcode.or_l : LengthFromOpcode.Statement (.or_l) := length_of_bytes rfl rfl
theorem LengthFromOpcode.or_atHL : LengthFromOpcode.Statement (.or_atHL) := length_of_bytes rfl rfl
theorem LengthFromOpcode.or_a : LengthFromOpcode.Statement (.or_a) := length_of_bytes rfl rfl
theorem LengthFromOpcode.cp_b : LengthFromOpcode.Statement (.cp_b) := length_of_bytes rfl rfl
theorem LengthFromOpcode.cp_c : LengthFromOpcode.Statement (.cp_c) := length_of_bytes rfl rfl
theorem LengthFromOpcode.cp_d : LengthFromOpcode.Statement (.cp_d) := length_of_bytes rfl rfl
theorem LengthFromOpcode.cp_e : LengthFromOpcode.Statement (.cp_e) := length_of_bytes rfl rfl
theorem LengthFromOpcode.cp_h : LengthFromOpcode.Statement (.cp_h) := length_of_bytes rfl rfl
theorem LengthFromOpcode.cp_l : LengthFromOpcode.Statement (.cp_l) := length_of_bytes rfl rfl
theorem LengthFromOpcode.cp_atHL : LengthFromOpcode.Statement (.cp_atHL) := length_of_bytes rfl rfl
theorem LengthFromOpcode.cp_a : LengthFromOpcode.Statement (.cp_a) := length_of_bytes rfl rfl
theorem LengthFromOpcode.ret_nz : LengthFromOpcode.Statement (.ret_nz) := length_of_bytes rfl rfl
theorem LengthFromOpcode.pop_bc : LengthFromOpcode.Statement (.pop_bc) := length_of_bytes rfl rfl
theorem LengthFromOpcode.jp_nz_a16 (nn : Word) : LengthFromOpcode.Statement (.jp_nz_a16 nn) := length_of_bytes rfl rfl
theorem LengthFromOpcode.jp_a16 (nn : Word) : LengthFromOpcode.Statement (.jp_a16 nn) := length_of_bytes rfl rfl
theorem LengthFromOpcode.call_nz_a16 (nn : Word) : LengthFromOpcode.Statement (.call_nz_a16 nn) := length_of_bytes rfl rfl
theorem LengthFromOpcode.push_bc : LengthFromOpcode.Statement (.push_bc) := length_of_bytes rfl rfl
theorem LengthFromOpcode.add_a_d8 (n : Byte) : LengthFromOpcode.Statement (.add_a_d8 n) := length_of_bytes rfl rfl
theorem LengthFromOpcode.rst_00 : LengthFromOpcode.Statement (.rst_00) := length_of_bytes rfl rfl
theorem LengthFromOpcode.ret_z : LengthFromOpcode.Statement (.ret_z) := length_of_bytes rfl rfl
theorem LengthFromOpcode.ret : LengthFromOpcode.Statement (.ret) := length_of_bytes rfl rfl
theorem LengthFromOpcode.jp_z_a16 (nn : Word) : LengthFromOpcode.Statement (.jp_z_a16 nn) := length_of_bytes rfl rfl
theorem LengthFromOpcode.call_z_a16 (nn : Word) : LengthFromOpcode.Statement (.call_z_a16 nn) := length_of_bytes rfl rfl
theorem LengthFromOpcode.call_a16 (nn : Word) : LengthFromOpcode.Statement (.call_a16 nn) := length_of_bytes rfl rfl
theorem LengthFromOpcode.adc_a_d8 (n : Byte) : LengthFromOpcode.Statement (.adc_a_d8 n) := length_of_bytes rfl rfl
theorem LengthFromOpcode.rst_08 : LengthFromOpcode.Statement (.rst_08) := length_of_bytes rfl rfl
theorem LengthFromOpcode.ret_nc : LengthFromOpcode.Statement (.ret_nc) := length_of_bytes rfl rfl
theorem LengthFromOpcode.pop_de : LengthFromOpcode.Statement (.pop_de) := length_of_bytes rfl rfl
theorem LengthFromOpcode.jp_nc_a16 (nn : Word) : LengthFromOpcode.Statement (.jp_nc_a16 nn) := length_of_bytes rfl rfl
theorem LengthFromOpcode.illegal_D3 : LengthFromOpcode.Statement (.illegal_D3) := length_of_bytes rfl rfl
theorem LengthFromOpcode.call_nc_a16 (nn : Word) : LengthFromOpcode.Statement (.call_nc_a16 nn) := length_of_bytes rfl rfl
theorem LengthFromOpcode.push_de : LengthFromOpcode.Statement (.push_de) := length_of_bytes rfl rfl
theorem LengthFromOpcode.sub_d8 (n : Byte) : LengthFromOpcode.Statement (.sub_d8 n) := length_of_bytes rfl rfl
theorem LengthFromOpcode.rst_10 : LengthFromOpcode.Statement (.rst_10) := length_of_bytes rfl rfl
theorem LengthFromOpcode.ret_c : LengthFromOpcode.Statement (.ret_c) := length_of_bytes rfl rfl
theorem LengthFromOpcode.reti : LengthFromOpcode.Statement (.reti) := length_of_bytes rfl rfl
theorem LengthFromOpcode.jp_c_a16 (nn : Word) : LengthFromOpcode.Statement (.jp_c_a16 nn) := length_of_bytes rfl rfl
theorem LengthFromOpcode.illegal_DB : LengthFromOpcode.Statement (.illegal_DB) := length_of_bytes rfl rfl
theorem LengthFromOpcode.call_c_a16 (nn : Word) : LengthFromOpcode.Statement (.call_c_a16 nn) := length_of_bytes rfl rfl
theorem LengthFromOpcode.illegal_DD : LengthFromOpcode.Statement (.illegal_DD) := length_of_bytes rfl rfl
theorem LengthFromOpcode.sbc_a_d8 (n : Byte) : LengthFromOpcode.Statement (.sbc_a_d8 n) := length_of_bytes rfl rfl
theorem LengthFromOpcode.rst_18 : LengthFromOpcode.Statement (.rst_18) := length_of_bytes rfl rfl
theorem LengthFromOpcode.ldh_atA8_a (n : Byte) : LengthFromOpcode.Statement (.ldh_atA8_a n) := length_of_bytes rfl rfl
theorem LengthFromOpcode.pop_hl : LengthFromOpcode.Statement (.pop_hl) := length_of_bytes rfl rfl
theorem LengthFromOpcode.ldh_atC_a : LengthFromOpcode.Statement (.ldh_atC_a) := length_of_bytes rfl rfl
theorem LengthFromOpcode.illegal_E3 : LengthFromOpcode.Statement (.illegal_E3) := length_of_bytes rfl rfl
theorem LengthFromOpcode.illegal_E4 : LengthFromOpcode.Statement (.illegal_E4) := length_of_bytes rfl rfl
theorem LengthFromOpcode.push_hl : LengthFromOpcode.Statement (.push_hl) := length_of_bytes rfl rfl
theorem LengthFromOpcode.and_d8 (n : Byte) : LengthFromOpcode.Statement (.and_d8 n) := length_of_bytes rfl rfl
theorem LengthFromOpcode.rst_20 : LengthFromOpcode.Statement (.rst_20) := length_of_bytes rfl rfl
theorem LengthFromOpcode.add_sp_e8 (e : Byte) : LengthFromOpcode.Statement (.add_sp_e8 e) := length_of_bytes rfl rfl
theorem LengthFromOpcode.jp_hl : LengthFromOpcode.Statement (.jp_hl) := length_of_bytes rfl rfl
theorem LengthFromOpcode.ld_atA16_a (nn : Word) : LengthFromOpcode.Statement (.ld_atA16_a nn) := length_of_bytes rfl rfl
theorem LengthFromOpcode.illegal_EB : LengthFromOpcode.Statement (.illegal_EB) := length_of_bytes rfl rfl
theorem LengthFromOpcode.illegal_EC : LengthFromOpcode.Statement (.illegal_EC) := length_of_bytes rfl rfl
theorem LengthFromOpcode.illegal_ED : LengthFromOpcode.Statement (.illegal_ED) := length_of_bytes rfl rfl
theorem LengthFromOpcode.xor_d8 (n : Byte) : LengthFromOpcode.Statement (.xor_d8 n) := length_of_bytes rfl rfl
theorem LengthFromOpcode.rst_28 : LengthFromOpcode.Statement (.rst_28) := length_of_bytes rfl rfl
theorem LengthFromOpcode.ldh_a_atA8 (n : Byte) : LengthFromOpcode.Statement (.ldh_a_atA8 n) := length_of_bytes rfl rfl
theorem LengthFromOpcode.pop_af : LengthFromOpcode.Statement (.pop_af) := length_of_bytes rfl rfl
theorem LengthFromOpcode.ldh_a_atC : LengthFromOpcode.Statement (.ldh_a_atC) := length_of_bytes rfl rfl
theorem LengthFromOpcode.di : LengthFromOpcode.Statement (.di) := length_of_bytes rfl rfl
theorem LengthFromOpcode.illegal_F4 : LengthFromOpcode.Statement (.illegal_F4) := length_of_bytes rfl rfl
theorem LengthFromOpcode.push_af : LengthFromOpcode.Statement (.push_af) := length_of_bytes rfl rfl
theorem LengthFromOpcode.or_d8 (n : Byte) : LengthFromOpcode.Statement (.or_d8 n) := length_of_bytes rfl rfl
theorem LengthFromOpcode.rst_30 : LengthFromOpcode.Statement (.rst_30) := length_of_bytes rfl rfl
theorem LengthFromOpcode.ld_hl_sp_e8 (e : Byte) : LengthFromOpcode.Statement (.ld_hl_sp_e8 e) := length_of_bytes rfl rfl
theorem LengthFromOpcode.ld_sp_hl : LengthFromOpcode.Statement (.ld_sp_hl) := length_of_bytes rfl rfl
theorem LengthFromOpcode.ld_a_atA16 (nn : Word) : LengthFromOpcode.Statement (.ld_a_atA16 nn) := length_of_bytes rfl rfl
theorem LengthFromOpcode.ei : LengthFromOpcode.Statement (.ei) := length_of_bytes rfl rfl
theorem LengthFromOpcode.illegal_FC : LengthFromOpcode.Statement (.illegal_FC) := length_of_bytes rfl rfl
theorem LengthFromOpcode.illegal_FD : LengthFromOpcode.Statement (.illegal_FD) := length_of_bytes rfl rfl
theorem LengthFromOpcode.cp_d8 (n : Byte) : LengthFromOpcode.Statement (.cp_d8 n) := length_of_bytes rfl rfl
theorem LengthFromOpcode.rst_38 : LengthFromOpcode.Statement (.rst_38) := length_of_bytes rfl rfl
theorem LengthFromOpcode.rlc_b : LengthFromOpcode.Statement (.rlc_b) := length_of_bytes rfl rfl
theorem LengthFromOpcode.rlc_c : LengthFromOpcode.Statement (.rlc_c) := length_of_bytes rfl rfl
theorem LengthFromOpcode.rlc_d : LengthFromOpcode.Statement (.rlc_d) := length_of_bytes rfl rfl
theorem LengthFromOpcode.rlc_e : LengthFromOpcode.Statement (.rlc_e) := length_of_bytes rfl rfl
theorem LengthFromOpcode.rlc_h : LengthFromOpcode.Statement (.rlc_h) := length_of_bytes rfl rfl
theorem LengthFromOpcode.rlc_l : LengthFromOpcode.Statement (.rlc_l) := length_of_bytes rfl rfl
theorem LengthFromOpcode.rlc_atHL : LengthFromOpcode.Statement (.rlc_atHL) := length_of_bytes rfl rfl
theorem LengthFromOpcode.rlc_a : LengthFromOpcode.Statement (.rlc_a) := length_of_bytes rfl rfl
theorem LengthFromOpcode.rrc_b : LengthFromOpcode.Statement (.rrc_b) := length_of_bytes rfl rfl
theorem LengthFromOpcode.rrc_c : LengthFromOpcode.Statement (.rrc_c) := length_of_bytes rfl rfl
theorem LengthFromOpcode.rrc_d : LengthFromOpcode.Statement (.rrc_d) := length_of_bytes rfl rfl
theorem LengthFromOpcode.rrc_e : LengthFromOpcode.Statement (.rrc_e) := length_of_bytes rfl rfl
theorem LengthFromOpcode.rrc_h : LengthFromOpcode.Statement (.rrc_h) := length_of_bytes rfl rfl
theorem LengthFromOpcode.rrc_l : LengthFromOpcode.Statement (.rrc_l) := length_of_bytes rfl rfl
theorem LengthFromOpcode.rrc_atHL : LengthFromOpcode.Statement (.rrc_atHL) := length_of_bytes rfl rfl
theorem LengthFromOpcode.rrc_a : LengthFromOpcode.Statement (.rrc_a) := length_of_bytes rfl rfl
theorem LengthFromOpcode.rl_b : LengthFromOpcode.Statement (.rl_b) := length_of_bytes rfl rfl
theorem LengthFromOpcode.rl_c : LengthFromOpcode.Statement (.rl_c) := length_of_bytes rfl rfl
theorem LengthFromOpcode.rl_d : LengthFromOpcode.Statement (.rl_d) := length_of_bytes rfl rfl
theorem LengthFromOpcode.rl_e : LengthFromOpcode.Statement (.rl_e) := length_of_bytes rfl rfl
theorem LengthFromOpcode.rl_h : LengthFromOpcode.Statement (.rl_h) := length_of_bytes rfl rfl
theorem LengthFromOpcode.rl_l : LengthFromOpcode.Statement (.rl_l) := length_of_bytes rfl rfl
theorem LengthFromOpcode.rl_atHL : LengthFromOpcode.Statement (.rl_atHL) := length_of_bytes rfl rfl
theorem LengthFromOpcode.rl_a : LengthFromOpcode.Statement (.rl_a) := length_of_bytes rfl rfl
theorem LengthFromOpcode.rr_b : LengthFromOpcode.Statement (.rr_b) := length_of_bytes rfl rfl
theorem LengthFromOpcode.rr_c : LengthFromOpcode.Statement (.rr_c) := length_of_bytes rfl rfl
theorem LengthFromOpcode.rr_d : LengthFromOpcode.Statement (.rr_d) := length_of_bytes rfl rfl
theorem LengthFromOpcode.rr_e : LengthFromOpcode.Statement (.rr_e) := length_of_bytes rfl rfl
theorem LengthFromOpcode.rr_h : LengthFromOpcode.Statement (.rr_h) := length_of_bytes rfl rfl
theorem LengthFromOpcode.rr_l : LengthFromOpcode.Statement (.rr_l) := length_of_bytes rfl rfl
theorem LengthFromOpcode.rr_atHL : LengthFromOpcode.Statement (.rr_atHL) := length_of_bytes rfl rfl
theorem LengthFromOpcode.rr_a : LengthFromOpcode.Statement (.rr_a) := length_of_bytes rfl rfl
theorem LengthFromOpcode.sla_b : LengthFromOpcode.Statement (.sla_b) := length_of_bytes rfl rfl
theorem LengthFromOpcode.sla_c : LengthFromOpcode.Statement (.sla_c) := length_of_bytes rfl rfl
theorem LengthFromOpcode.sla_d : LengthFromOpcode.Statement (.sla_d) := length_of_bytes rfl rfl
theorem LengthFromOpcode.sla_e : LengthFromOpcode.Statement (.sla_e) := length_of_bytes rfl rfl
theorem LengthFromOpcode.sla_h : LengthFromOpcode.Statement (.sla_h) := length_of_bytes rfl rfl
theorem LengthFromOpcode.sla_l : LengthFromOpcode.Statement (.sla_l) := length_of_bytes rfl rfl
theorem LengthFromOpcode.sla_atHL : LengthFromOpcode.Statement (.sla_atHL) := length_of_bytes rfl rfl
theorem LengthFromOpcode.sla_a : LengthFromOpcode.Statement (.sla_a) := length_of_bytes rfl rfl
theorem LengthFromOpcode.sra_b : LengthFromOpcode.Statement (.sra_b) := length_of_bytes rfl rfl
theorem LengthFromOpcode.sra_c : LengthFromOpcode.Statement (.sra_c) := length_of_bytes rfl rfl
theorem LengthFromOpcode.sra_d : LengthFromOpcode.Statement (.sra_d) := length_of_bytes rfl rfl
theorem LengthFromOpcode.sra_e : LengthFromOpcode.Statement (.sra_e) := length_of_bytes rfl rfl
theorem LengthFromOpcode.sra_h : LengthFromOpcode.Statement (.sra_h) := length_of_bytes rfl rfl
theorem LengthFromOpcode.sra_l : LengthFromOpcode.Statement (.sra_l) := length_of_bytes rfl rfl
theorem LengthFromOpcode.sra_atHL : LengthFromOpcode.Statement (.sra_atHL) := length_of_bytes rfl rfl
theorem LengthFromOpcode.sra_a : LengthFromOpcode.Statement (.sra_a) := length_of_bytes rfl rfl
theorem LengthFromOpcode.swap_b : LengthFromOpcode.Statement (.swap_b) := length_of_bytes rfl rfl
theorem LengthFromOpcode.swap_c : LengthFromOpcode.Statement (.swap_c) := length_of_bytes rfl rfl
theorem LengthFromOpcode.swap_d : LengthFromOpcode.Statement (.swap_d) := length_of_bytes rfl rfl
theorem LengthFromOpcode.swap_e : LengthFromOpcode.Statement (.swap_e) := length_of_bytes rfl rfl
theorem LengthFromOpcode.swap_h : LengthFromOpcode.Statement (.swap_h) := length_of_bytes rfl rfl
theorem LengthFromOpcode.swap_l : LengthFromOpcode.Statement (.swap_l) := length_of_bytes rfl rfl
theorem LengthFromOpcode.swap_atHL : LengthFromOpcode.Statement (.swap_atHL) := length_of_bytes rfl rfl
theorem LengthFromOpcode.swap_a : LengthFromOpcode.Statement (.swap_a) := length_of_bytes rfl rfl
theorem LengthFromOpcode.srl_b : LengthFromOpcode.Statement (.srl_b) := length_of_bytes rfl rfl
theorem LengthFromOpcode.srl_c : LengthFromOpcode.Statement (.srl_c) := length_of_bytes rfl rfl
theorem LengthFromOpcode.srl_d : LengthFromOpcode.Statement (.srl_d) := length_of_bytes rfl rfl
theorem LengthFromOpcode.srl_e : LengthFromOpcode.Statement (.srl_e) := length_of_bytes rfl rfl
theorem LengthFromOpcode.srl_h : LengthFromOpcode.Statement (.srl_h) := length_of_bytes rfl rfl
theorem LengthFromOpcode.srl_l : LengthFromOpcode.Statement (.srl_l) := length_of_bytes rfl rfl
theorem LengthFromOpcode.srl_atHL : LengthFromOpcode.Statement (.srl_atHL) := length_of_bytes rfl rfl
theorem LengthFromOpcode.srl_a : LengthFromOpcode.Statement (.srl_a) := length_of_bytes rfl rfl
theorem LengthFromOpcode.bit_0_b : LengthFromOpcode.Statement (.bit_0_b) := length_of_bytes rfl rfl
theorem LengthFromOpcode.bit_0_c : LengthFromOpcode.Statement (.bit_0_c) := length_of_bytes rfl rfl
theorem LengthFromOpcode.bit_0_d : LengthFromOpcode.Statement (.bit_0_d) := length_of_bytes rfl rfl
theorem LengthFromOpcode.bit_0_e : LengthFromOpcode.Statement (.bit_0_e) := length_of_bytes rfl rfl
theorem LengthFromOpcode.bit_0_h : LengthFromOpcode.Statement (.bit_0_h) := length_of_bytes rfl rfl
theorem LengthFromOpcode.bit_0_l : LengthFromOpcode.Statement (.bit_0_l) := length_of_bytes rfl rfl
theorem LengthFromOpcode.bit_0_atHL : LengthFromOpcode.Statement (.bit_0_atHL) := length_of_bytes rfl rfl
theorem LengthFromOpcode.bit_0_a : LengthFromOpcode.Statement (.bit_0_a) := length_of_bytes rfl rfl
theorem LengthFromOpcode.bit_1_b : LengthFromOpcode.Statement (.bit_1_b) := length_of_bytes rfl rfl
theorem LengthFromOpcode.bit_1_c : LengthFromOpcode.Statement (.bit_1_c) := length_of_bytes rfl rfl
theorem LengthFromOpcode.bit_1_d : LengthFromOpcode.Statement (.bit_1_d) := length_of_bytes rfl rfl
theorem LengthFromOpcode.bit_1_e : LengthFromOpcode.Statement (.bit_1_e) := length_of_bytes rfl rfl
theorem LengthFromOpcode.bit_1_h : LengthFromOpcode.Statement (.bit_1_h) := length_of_bytes rfl rfl
theorem LengthFromOpcode.bit_1_l : LengthFromOpcode.Statement (.bit_1_l) := length_of_bytes rfl rfl
theorem LengthFromOpcode.bit_1_atHL : LengthFromOpcode.Statement (.bit_1_atHL) := length_of_bytes rfl rfl
theorem LengthFromOpcode.bit_1_a : LengthFromOpcode.Statement (.bit_1_a) := length_of_bytes rfl rfl
theorem LengthFromOpcode.bit_2_b : LengthFromOpcode.Statement (.bit_2_b) := length_of_bytes rfl rfl
theorem LengthFromOpcode.bit_2_c : LengthFromOpcode.Statement (.bit_2_c) := length_of_bytes rfl rfl
theorem LengthFromOpcode.bit_2_d : LengthFromOpcode.Statement (.bit_2_d) := length_of_bytes rfl rfl
theorem LengthFromOpcode.bit_2_e : LengthFromOpcode.Statement (.bit_2_e) := length_of_bytes rfl rfl
theorem LengthFromOpcode.bit_2_h : LengthFromOpcode.Statement (.bit_2_h) := length_of_bytes rfl rfl
theorem LengthFromOpcode.bit_2_l : LengthFromOpcode.Statement (.bit_2_l) := length_of_bytes rfl rfl
theorem LengthFromOpcode.bit_2_atHL : LengthFromOpcode.Statement (.bit_2_atHL) := length_of_bytes rfl rfl
theorem LengthFromOpcode.bit_2_a : LengthFromOpcode.Statement (.bit_2_a) := length_of_bytes rfl rfl
theorem LengthFromOpcode.bit_3_b : LengthFromOpcode.Statement (.bit_3_b) := length_of_bytes rfl rfl
theorem LengthFromOpcode.bit_3_c : LengthFromOpcode.Statement (.bit_3_c) := length_of_bytes rfl rfl
theorem LengthFromOpcode.bit_3_d : LengthFromOpcode.Statement (.bit_3_d) := length_of_bytes rfl rfl
theorem LengthFromOpcode.bit_3_e : LengthFromOpcode.Statement (.bit_3_e) := length_of_bytes rfl rfl
theorem LengthFromOpcode.bit_3_h : LengthFromOpcode.Statement (.bit_3_h) := length_of_bytes rfl rfl
theorem LengthFromOpcode.bit_3_l : LengthFromOpcode.Statement (.bit_3_l) := length_of_bytes rfl rfl
theorem LengthFromOpcode.bit_3_atHL : LengthFromOpcode.Statement (.bit_3_atHL) := length_of_bytes rfl rfl
theorem LengthFromOpcode.bit_3_a : LengthFromOpcode.Statement (.bit_3_a) := length_of_bytes rfl rfl
theorem LengthFromOpcode.bit_4_b : LengthFromOpcode.Statement (.bit_4_b) := length_of_bytes rfl rfl
theorem LengthFromOpcode.bit_4_c : LengthFromOpcode.Statement (.bit_4_c) := length_of_bytes rfl rfl
theorem LengthFromOpcode.bit_4_d : LengthFromOpcode.Statement (.bit_4_d) := length_of_bytes rfl rfl
theorem LengthFromOpcode.bit_4_e : LengthFromOpcode.Statement (.bit_4_e) := length_of_bytes rfl rfl
theorem LengthFromOpcode.bit_4_h : LengthFromOpcode.Statement (.bit_4_h) := length_of_bytes rfl rfl
theorem LengthFromOpcode.bit_4_l : LengthFromOpcode.Statement (.bit_4_l) := length_of_bytes rfl rfl
theorem LengthFromOpcode.bit_4_atHL : LengthFromOpcode.Statement (.bit_4_atHL) := length_of_bytes rfl rfl
theorem LengthFromOpcode.bit_4_a : LengthFromOpcode.Statement (.bit_4_a) := length_of_bytes rfl rfl
theorem LengthFromOpcode.bit_5_b : LengthFromOpcode.Statement (.bit_5_b) := length_of_bytes rfl rfl
theorem LengthFromOpcode.bit_5_c : LengthFromOpcode.Statement (.bit_5_c) := length_of_bytes rfl rfl
theorem LengthFromOpcode.bit_5_d : LengthFromOpcode.Statement (.bit_5_d) := length_of_bytes rfl rfl
theorem LengthFromOpcode.bit_5_e : LengthFromOpcode.Statement (.bit_5_e) := length_of_bytes rfl rfl
theorem LengthFromOpcode.bit_5_h : LengthFromOpcode.Statement (.bit_5_h) := length_of_bytes rfl rfl
theorem LengthFromOpcode.bit_5_l : LengthFromOpcode.Statement (.bit_5_l) := length_of_bytes rfl rfl
theorem LengthFromOpcode.bit_5_atHL : LengthFromOpcode.Statement (.bit_5_atHL) := length_of_bytes rfl rfl
theorem LengthFromOpcode.bit_5_a : LengthFromOpcode.Statement (.bit_5_a) := length_of_bytes rfl rfl
theorem LengthFromOpcode.bit_6_b : LengthFromOpcode.Statement (.bit_6_b) := length_of_bytes rfl rfl
theorem LengthFromOpcode.bit_6_c : LengthFromOpcode.Statement (.bit_6_c) := length_of_bytes rfl rfl
theorem LengthFromOpcode.bit_6_d : LengthFromOpcode.Statement (.bit_6_d) := length_of_bytes rfl rfl
theorem LengthFromOpcode.bit_6_e : LengthFromOpcode.Statement (.bit_6_e) := length_of_bytes rfl rfl
theorem LengthFromOpcode.bit_6_h : LengthFromOpcode.Statement (.bit_6_h) := length_of_bytes rfl rfl
theorem LengthFromOpcode.bit_6_l : LengthFromOpcode.Statement (.bit_6_l) := length_of_bytes rfl rfl
theorem LengthFromOpcode.bit_6_atHL : LengthFromOpcode.Statement (.bit_6_atHL) := length_of_bytes rfl rfl
theorem LengthFromOpcode.bit_6_a : LengthFromOpcode.Statement (.bit_6_a) := length_of_bytes rfl rfl
theorem LengthFromOpcode.bit_7_b : LengthFromOpcode.Statement (.bit_7_b) := length_of_bytes rfl rfl
theorem LengthFromOpcode.bit_7_c : LengthFromOpcode.Statement (.bit_7_c) := length_of_bytes rfl rfl
theorem LengthFromOpcode.bit_7_d : LengthFromOpcode.Statement (.bit_7_d) := length_of_bytes rfl rfl
theorem LengthFromOpcode.bit_7_e : LengthFromOpcode.Statement (.bit_7_e) := length_of_bytes rfl rfl
theorem LengthFromOpcode.bit_7_h : LengthFromOpcode.Statement (.bit_7_h) := length_of_bytes rfl rfl
theorem LengthFromOpcode.bit_7_l : LengthFromOpcode.Statement (.bit_7_l) := length_of_bytes rfl rfl
theorem LengthFromOpcode.bit_7_atHL : LengthFromOpcode.Statement (.bit_7_atHL) := length_of_bytes rfl rfl
theorem LengthFromOpcode.bit_7_a : LengthFromOpcode.Statement (.bit_7_a) := length_of_bytes rfl rfl
theorem LengthFromOpcode.res_0_b : LengthFromOpcode.Statement (.res_0_b) := length_of_bytes rfl rfl
theorem LengthFromOpcode.res_0_c : LengthFromOpcode.Statement (.res_0_c) := length_of_bytes rfl rfl
theorem LengthFromOpcode.res_0_d : LengthFromOpcode.Statement (.res_0_d) := length_of_bytes rfl rfl
theorem LengthFromOpcode.res_0_e : LengthFromOpcode.Statement (.res_0_e) := length_of_bytes rfl rfl
theorem LengthFromOpcode.res_0_h : LengthFromOpcode.Statement (.res_0_h) := length_of_bytes rfl rfl
theorem LengthFromOpcode.res_0_l : LengthFromOpcode.Statement (.res_0_l) := length_of_bytes rfl rfl
theorem LengthFromOpcode.res_0_atHL : LengthFromOpcode.Statement (.res_0_atHL) := length_of_bytes rfl rfl
theorem LengthFromOpcode.res_0_a : LengthFromOpcode.Statement (.res_0_a) := length_of_bytes rfl rfl
theorem LengthFromOpcode.res_1_b : LengthFromOpcode.Statement (.res_1_b) := length_of_bytes rfl rfl
theorem LengthFromOpcode.res_1_c : LengthFromOpcode.Statement (.res_1_c) := length_of_bytes rfl rfl
theorem LengthFromOpcode.res_1_d : LengthFromOpcode.Statement (.res_1_d) := length_of_bytes rfl rfl
theorem LengthFromOpcode.res_1_e : LengthFromOpcode.Statement (.res_1_e) := length_of_bytes rfl rfl
theorem LengthFromOpcode.res_1_h : LengthFromOpcode.Statement (.res_1_h) := length_of_bytes rfl rfl
theorem LengthFromOpcode.res_1_l : LengthFromOpcode.Statement (.res_1_l) := length_of_bytes rfl rfl
theorem LengthFromOpcode.res_1_atHL : LengthFromOpcode.Statement (.res_1_atHL) := length_of_bytes rfl rfl
theorem LengthFromOpcode.res_1_a : LengthFromOpcode.Statement (.res_1_a) := length_of_bytes rfl rfl
theorem LengthFromOpcode.res_2_b : LengthFromOpcode.Statement (.res_2_b) := length_of_bytes rfl rfl
theorem LengthFromOpcode.res_2_c : LengthFromOpcode.Statement (.res_2_c) := length_of_bytes rfl rfl
theorem LengthFromOpcode.res_2_d : LengthFromOpcode.Statement (.res_2_d) := length_of_bytes rfl rfl
theorem LengthFromOpcode.res_2_e : LengthFromOpcode.Statement (.res_2_e) := length_of_bytes rfl rfl
theorem LengthFromOpcode.res_2_h : LengthFromOpcode.Statement (.res_2_h) := length_of_bytes rfl rfl
theorem LengthFromOpcode.res_2_l : LengthFromOpcode.Statement (.res_2_l) := length_of_bytes rfl rfl
theorem LengthFromOpcode.res_2_atHL : LengthFromOpcode.Statement (.res_2_atHL) := length_of_bytes rfl rfl
theorem LengthFromOpcode.res_2_a : LengthFromOpcode.Statement (.res_2_a) := length_of_bytes rfl rfl
theorem LengthFromOpcode.res_3_b : LengthFromOpcode.Statement (.res_3_b) := length_of_bytes rfl rfl
theorem LengthFromOpcode.res_3_c : LengthFromOpcode.Statement (.res_3_c) := length_of_bytes rfl rfl
theorem LengthFromOpcode.res_3_d : LengthFromOpcode.Statement (.res_3_d) := length_of_bytes rfl rfl
theorem LengthFromOpcode.res_3_e : LengthFromOpcode.Statement (.res_3_e) := length_of_bytes rfl rfl
theorem LengthFromOpcode.res_3_h : LengthFromOpcode.Statement (.res_3_h) := length_of_bytes rfl rfl
theorem LengthFromOpcode.res_3_l : LengthFromOpcode.Statement (.res_3_l) := length_of_bytes rfl rfl
theorem LengthFromOpcode.res_3_atHL : LengthFromOpcode.Statement (.res_3_atHL) := length_of_bytes rfl rfl
theorem LengthFromOpcode.res_3_a : LengthFromOpcode.Statement (.res_3_a) := length_of_bytes rfl rfl
theorem LengthFromOpcode.res_4_b : LengthFromOpcode.Statement (.res_4_b) := length_of_bytes rfl rfl
theorem LengthFromOpcode.res_4_c : LengthFromOpcode.Statement (.res_4_c) := length_of_bytes rfl rfl
theorem LengthFromOpcode.res_4_d : LengthFromOpcode.Statement (.res_4_d) := length_of_bytes rfl rfl
theorem LengthFromOpcode.res_4_e : LengthFromOpcode.Statement (.res_4_e) := length_of_bytes rfl rfl
theorem LengthFromOpcode.res_4_h : LengthFromOpcode.Statement (.res_4_h) := length_of_bytes rfl rfl
theorem LengthFromOpcode.res_4_l : LengthFromOpcode.Statement (.res_4_l) := length_of_bytes rfl rfl
theorem LengthFromOpcode.res_4_atHL : LengthFromOpcode.Statement (.res_4_atHL) := length_of_bytes rfl rfl
theorem LengthFromOpcode.res_4_a : LengthFromOpcode.Statement (.res_4_a) := length_of_bytes rfl rfl
theorem LengthFromOpcode.res_5_b : LengthFromOpcode.Statement (.res_5_b) := length_of_bytes rfl rfl
theorem LengthFromOpcode.res_5_c : LengthFromOpcode.Statement (.res_5_c) := length_of_bytes rfl rfl
theorem LengthFromOpcode.res_5_d : LengthFromOpcode.Statement (.res_5_d) := length_of_bytes rfl rfl
theorem LengthFromOpcode.res_5_e : LengthFromOpcode.Statement (.res_5_e) := length_of_bytes rfl rfl
theorem LengthFromOpcode.res_5_h : LengthFromOpcode.Statement (.res_5_h) := length_of_bytes rfl rfl
theorem LengthFromOpcode.res_5_l : LengthFromOpcode.Statement (.res_5_l) := length_of_bytes rfl rfl
theorem LengthFromOpcode.res_5_atHL : LengthFromOpcode.Statement (.res_5_atHL) := length_of_bytes rfl rfl
theorem LengthFromOpcode.res_5_a : LengthFromOpcode.Statement (.res_5_a) := length_of_bytes rfl rfl
theorem LengthFromOpcode.res_6_b : LengthFromOpcode.Statement (.res_6_b) := length_of_bytes rfl rfl
theorem LengthFromOpcode.res_6_c : LengthFromOpcode.Statement (.res_6_c) := length_of_bytes rfl rfl
theorem LengthFromOpcode.res_6_d : LengthFromOpcode.Statement (.res_6_d) := length_of_bytes rfl rfl
theorem LengthFromOpcode.res_6_e : LengthFromOpcode.Statement (.res_6_e) := length_of_bytes rfl rfl
theorem LengthFromOpcode.res_6_h : LengthFromOpcode.Statement (.res_6_h) := length_of_bytes rfl rfl
theorem LengthFromOpcode.res_6_l : LengthFromOpcode.Statement (.res_6_l) := length_of_bytes rfl rfl
theorem LengthFromOpcode.res_6_atHL : LengthFromOpcode.Statement (.res_6_atHL) := length_of_bytes rfl rfl
theorem LengthFromOpcode.res_6_a : LengthFromOpcode.Statement (.res_6_a) := length_of_bytes rfl rfl
theorem LengthFromOpcode.res_7_b : LengthFromOpcode.Statement (.res_7_b) := length_of_bytes rfl rfl
theorem LengthFromOpcode.res_7_c : LengthFromOpcode.Statement (.res_7_c) := length_of_bytes rfl rfl
theorem LengthFromOpcode.res_7_d : LengthFromOpcode.Statement (.res_7_d) := length_of_bytes rfl rfl
theorem LengthFromOpcode.res_7_e : LengthFromOpcode.Statement (.res_7_e) := length_of_bytes rfl rfl
theorem LengthFromOpcode.res_7_h : LengthFromOpcode.Statement (.res_7_h) := length_of_bytes rfl rfl
theorem LengthFromOpcode.res_7_l : LengthFromOpcode.Statement (.res_7_l) := length_of_bytes rfl rfl
theorem LengthFromOpcode.res_7_atHL : LengthFromOpcode.Statement (.res_7_atHL) := length_of_bytes rfl rfl
theorem LengthFromOpcode.res_7_a : LengthFromOpcode.Statement (.res_7_a) := length_of_bytes rfl rfl
theorem LengthFromOpcode.set_0_b : LengthFromOpcode.Statement (.set_0_b) := length_of_bytes rfl rfl
theorem LengthFromOpcode.set_0_c : LengthFromOpcode.Statement (.set_0_c) := length_of_bytes rfl rfl
theorem LengthFromOpcode.set_0_d : LengthFromOpcode.Statement (.set_0_d) := length_of_bytes rfl rfl
theorem LengthFromOpcode.set_0_e : LengthFromOpcode.Statement (.set_0_e) := length_of_bytes rfl rfl
theorem LengthFromOpcode.set_0_h : LengthFromOpcode.Statement (.set_0_h) := length_of_bytes rfl rfl
theorem LengthFromOpcode.set_0_l : LengthFromOpcode.Statement (.set_0_l) := length_of_bytes rfl rfl
theorem LengthFromOpcode.set_0_atHL : LengthFromOpcode.Statement (.set_0_atHL) := length_of_bytes rfl rfl
theorem LengthFromOpcode.set_0_a : LengthFromOpcode.Statement (.set_0_a) := length_of_bytes rfl rfl
theorem LengthFromOpcode.set_1_b : LengthFromOpcode.Statement (.set_1_b) := length_of_bytes rfl rfl
theorem LengthFromOpcode.set_1_c : LengthFromOpcode.Statement (.set_1_c) := length_of_bytes rfl rfl
theorem LengthFromOpcode.set_1_d : LengthFromOpcode.Statement (.set_1_d) := length_of_bytes rfl rfl
theorem LengthFromOpcode.set_1_e : LengthFromOpcode.Statement (.set_1_e) := length_of_bytes rfl rfl
theorem LengthFromOpcode.set_1_h : LengthFromOpcode.Statement (.set_1_h) := length_of_bytes rfl rfl
theorem LengthFromOpcode.set_1_l : LengthFromOpcode.Statement (.set_1_l) := length_of_bytes rfl rfl
theorem LengthFromOpcode.set_1_atHL : LengthFromOpcode.Statement (.set_1_atHL) := length_of_bytes rfl rfl
theorem LengthFromOpcode.set_1_a : LengthFromOpcode.Statement (.set_1_a) := length_of_bytes rfl rfl
theorem LengthFromOpcode.set_2_b : LengthFromOpcode.Statement (.set_2_b) := length_of_bytes rfl rfl
theorem LengthFromOpcode.set_2_c : LengthFromOpcode.Statement (.set_2_c) := length_of_bytes rfl rfl
theorem LengthFromOpcode.set_2_d : LengthFromOpcode.Statement (.set_2_d) := length_of_bytes rfl rfl
theorem LengthFromOpcode.set_2_e : LengthFromOpcode.Statement (.set_2_e) := length_of_bytes rfl rfl
theorem LengthFromOpcode.set_2_h : LengthFromOpcode.Statement (.set_2_h) := length_of_bytes rfl rfl
theorem LengthFromOpcode.set_2_l : LengthFromOpcode.Statement (.set_2_l) := length_of_bytes rfl rfl
theorem LengthFromOpcode.set_2_atHL : LengthFromOpcode.Statement (.set_2_atHL) := length_of_bytes rfl rfl
theorem LengthFromOpcode.set_2_a : LengthFromOpcode.Statement (.set_2_a) := length_of_bytes rfl rfl
theorem LengthFromOpcode.set_3_b : LengthFromOpcode.Statement (.set_3_b) := length_of_bytes rfl rfl
theorem LengthFromOpcode.set_3_c : LengthFromOpcode.Statement (.set_3_c) := length_of_bytes rfl rfl
theorem LengthFromOpcode.set_3_d : LengthFromOpcode.Statement (.set_3_d) := length_of_bytes rfl rfl
theorem LengthFromOpcode.set_3_e : LengthFromOpcode.Statement (.set_3_e) := length_of_bytes rfl rfl
theorem LengthFromOpcode.set_3_h : LengthFromOpcode.Statement (.set_3_h) := length_of_bytes rfl rfl
theorem LengthFromOpcode.set_3_l : LengthFromOpcode.Statement (.set_3_l) := length_of_bytes rfl rfl
theorem LengthFromOpcode.set_3_atHL : LengthFromOpcode.Statement (.set_3_atHL) := length_of_bytes rfl rfl
theorem LengthFromOpcode.set_3_a : LengthFromOpcode.Statement (.set_3_a) := length_of_bytes rfl rfl
theorem LengthFromOpcode.set_4_b : LengthFromOpcode.Statement (.set_4_b) := length_of_bytes rfl rfl
theorem LengthFromOpcode.set_4_c : LengthFromOpcode.Statement (.set_4_c) := length_of_bytes rfl rfl
theorem LengthFromOpcode.set_4_d : LengthFromOpcode.Statement (.set_4_d) := length_of_bytes rfl rfl
theorem LengthFromOpcode.set_4_e : LengthFromOpcode.Statement (.set_4_e) := length_of_bytes rfl rfl
theorem LengthFromOpcode.set_4_h : LengthFromOpcode.Statement (.set_4_h) := length_of_bytes rfl rfl
theorem LengthFromOpcode.set_4_l : LengthFromOpcode.Statement (.set_4_l) := length_of_bytes rfl rfl
theorem LengthFromOpcode.set_4_atHL : LengthFromOpcode.Statement (.set_4_atHL) := length_of_bytes rfl rfl
theorem LengthFromOpcode.set_4_a : LengthFromOpcode.Statement (.set_4_a) := length_of_bytes rfl rfl
theorem LengthFromOpcode.set_5_b : LengthFromOpcode.Statement (.set_5_b) := length_of_bytes rfl rfl
theorem LengthFromOpcode.set_5_c : LengthFromOpcode.Statement (.set_5_c) := length_of_bytes rfl rfl
theorem LengthFromOpcode.set_5_d : LengthFromOpcode.Statement (.set_5_d) := length_of_bytes rfl rfl
theorem LengthFromOpcode.set_5_e : LengthFromOpcode.Statement (.set_5_e) := length_of_bytes rfl rfl
theorem LengthFromOpcode.set_5_h : LengthFromOpcode.Statement (.set_5_h) := length_of_bytes rfl rfl
theorem LengthFromOpcode.set_5_l : LengthFromOpcode.Statement (.set_5_l) := length_of_bytes rfl rfl
theorem LengthFromOpcode.set_5_atHL : LengthFromOpcode.Statement (.set_5_atHL) := length_of_bytes rfl rfl
theorem LengthFromOpcode.set_5_a : LengthFromOpcode.Statement (.set_5_a) := length_of_bytes rfl rfl
theorem LengthFromOpcode.set_6_b : LengthFromOpcode.Statement (.set_6_b) := length_of_bytes rfl rfl
theorem LengthFromOpcode.set_6_c : LengthFromOpcode.Statement (.set_6_c) := length_of_bytes rfl rfl
theorem LengthFromOpcode.set_6_d : LengthFromOpcode.Statement (.set_6_d) := length_of_bytes rfl rfl
theorem LengthFromOpcode.set_6_e : LengthFromOpcode.Statement (.set_6_e) := length_of_bytes rfl rfl
theorem LengthFromOpcode.set_6_h : LengthFromOpcode.Statement (.set_6_h) := length_of_bytes rfl rfl
theorem LengthFromOpcode.set_6_l : LengthFromOpcode.Statement (.set_6_l) := length_of_bytes rfl rfl
theorem LengthFromOpcode.set_6_atHL : LengthFromOpcode.Statement (.set_6_atHL) := length_of_bytes rfl rfl
theorem LengthFromOpcode.set_6_a : LengthFromOpcode.Statement (.set_6_a) := length_of_bytes rfl rfl
theorem LengthFromOpcode.set_7_b : LengthFromOpcode.Statement (.set_7_b) := length_of_bytes rfl rfl
theorem LengthFromOpcode.set_7_c : LengthFromOpcode.Statement (.set_7_c) := length_of_bytes rfl rfl
theorem LengthFromOpcode.set_7_d : LengthFromOpcode.Statement (.set_7_d) := length_of_bytes rfl rfl
theorem LengthFromOpcode.set_7_e : LengthFromOpcode.Statement (.set_7_e) := length_of_bytes rfl rfl
theorem LengthFromOpcode.set_7_h : LengthFromOpcode.Statement (.set_7_h) := length_of_bytes rfl rfl
theorem LengthFromOpcode.set_7_l : LengthFromOpcode.Statement (.set_7_l) := length_of_bytes rfl rfl
theorem LengthFromOpcode.set_7_atHL : LengthFromOpcode.Statement (.set_7_atHL) := length_of_bytes rfl rfl
theorem LengthFromOpcode.set_7_a : LengthFromOpcode.Statement (.set_7_a) := length_of_bytes rfl rfl

end Sys2Proof.Laws
end

