-- ==== Sys2Proof/Laws/Step.lean ====
section
/-! SUPPORT. What one machine step can be: the ways `step` and `cpuStep` answer a next state, with their conditions, so that no
later proof unfolds them. -/

namespace Sys2Proof.Machine

/-- A `CpuStep` that goes on is an interrupt entry, a halted idle, or an executed instruction. -/
theorem cpuStep_cases {s u : State} (h : cpuStep s = .next u) :
    (s.dispatches = true ∧ u = interruptEntry (lowestSource s.pending) (wake s))
      ∨ (s.dispatches = false ∧ (wake s).halted = true ∧ u = s.charge s.cfg.haltIdleCycles)
      ∨ (s.dispatches = false ∧ (wake s).halted = false
          ∧ ∃ t, exec s.fetched (wake s) = .next t ∧ u = afterExec s t) := by
  unfold cpuStep at h
  split at h
  · rename_i hd
    exact .inl ⟨hd, (Host.Outcome.next.inj h).symm⟩
  · rename_i hd
    have hd : s.dispatches = false := by simpa using hd
    split at h
    · rename_i hh
      exact .inr (.inl ⟨hd, hh, (Host.Outcome.next.inj h).symm⟩)
    · rename_i hh
      have hh : (wake s).halted = false := by simpa using hh
      split at h
      · rename_i t ht
        exact .inr (.inr ⟨hd, hh, t, ht, (Host.Outcome.next.inj h).symm⟩)
      · cases h
      · cases h

/-- The rest of a machine step goes on exactly when no model fault was latched. -/
theorem finishStep_cases {u t : State} (h : finishStep u = .next t) :
    (passTime u).modelFault = none ∧ t = hostKey (passTime u) := by
  unfold finishStep at h
  dsimp only at h
  split at h
  · cases h
  · rename_i hm
    exact ⟨hm, (Host.Outcome.next.inj h).symm⟩

/-- A machine step that goes on began without a fault, and either raised Fatal, changing nothing else, or completed. -/
theorem step_cases {s t : State} (h : step s = .next t) :
    s.fatal = none ∧ s.modelFault = none ∧ ∃ u, cpuStep s = .next u
      ∧ ((u.fatal.isSome = true ∧ t = u) ∨ (u.fatal = none ∧ finishStep u = .next t)) := by
  unfold step machineStep at h
  split at h
  · cases h
  · cases h
  · rename_i hf hm
    refine ⟨hf, hm, ?_⟩
    split at h
    · rename_i u hu
      refine ⟨u, hu, ?_⟩
      split at h
      · rename_i hs
        exact .inl ⟨hs, (Host.Outcome.next.inj h).symm⟩
      · rename_i hs
        exact .inr ⟨by simpa using hs, h⟩
    · cases h
    · cases h

/-- A machine step from a state without a fault, by what its `CpuStep` answers. -/
theorem step_of_cpuStep {s u : State} (hf : s.fatal = none) (hm : s.modelFault = none) (h : cpuStep s = .next u) :
    step s = if u.fatal.isSome then .next u else finishStep u := by
  have e : step s = match cpuStep s with
      | .next t => if t.fatal.isSome then .next t else finishStep t
      | .fault e => .fault e
      | .refused r => .refused r := by
    unfold step machineStep
    generalize cpuStep s = x
    cases x <;> simp only [hf, hm]
  rw [e, h]

@[simp] theorem wake_cpuOnly (s : State) : CpuOnly s (wake s) := by
  unfold wake
  split <;> rfl

/-- Whatever `CpuStep` did, the state is the old one, with perhaps the interrupt flag cleared, after at most two byte stores,
with the CPU's own part replaced. -/
theorem cpuStep_shape {s u : State} (h : cpuStep s = .next u) :
    ∃ (v : Byte) (ws : List (Word × Byte)) (r : CpuRegs), ws.length ≤ 2
      ∧ (u = (s.stores ws).withCpu r ∨ u = ((s.setIo offIF v).stores ws).withCpu r) := by
  rcases cpuStep_cases h with ⟨_, rfl⟩ | ⟨_, _, rfl⟩ | ⟨_, _, t, ht, rfl⟩
  · refine ⟨s.ifReg &&& (0xFF ^^^ ((1 : Byte) <<< lowestSource s.pending)),
      [(s.sp - 2, lowByte s.pc), (s.sp - 2 + 1, highByte s.pc)],
      (interruptEntry (lowestSource s.pending) (wake s)).cpu, by simp, .inr ?_⟩
    · have e : wake s = s.withCpu (wake s).cpu := wake_cpuOnly s
      have esp : (wake s).sp = s.sp := by unfold wake; split <;> rfl
      have epc : (wake s).pc = s.pc := by unfold wake; split <;> rfl
      have eif : (wake s).ifReg = s.ifReg := by unfold wake; split <;> rfl
      generalize lowestSource s.pending = i
      have key : ∀ (c : CpuRegs), c.sp = s.sp → c.pc = s.pc →
          interruptEntry i (s.withCpu c) =
            ((s.setIo offIF (s.ifReg &&& (0xFF ^^^ ((1 : Byte) <<< i)))).stores
              [(s.sp - 2, lowByte s.pc), (s.sp - 2 + 1, highByte s.pc)]).withCpu
              (interruptEntry i (s.withCpu c)).cpu := by
        intro c hsp hpc
        generalize hv : s.ifReg &&& (0xFF ^^^ ((1 : Byte) <<< i)) = v
        have e1 : interruptEntry i (s.withCpu c) =
            { busWrite (busWrite ((s.setIo offIF v).withCpu { c with sp := c.sp - 2 }) (c.sp - 2) (lowByte c.pc))
                (c.sp - 2 + 1) (highByte c.pc) with pc := interruptVector i, ime := false, cycles := 20 } := by
          rw [← hv]
          rfl
        rw [e1, busWrite_withCpu, busWrite_withCpu, hsp, hpc]
        rfl
      rw [e]
      exact key _ esp epc
  · exact ⟨0, [], (s.charge s.cfg.haltIdleCycles).cpu, by simp, .inl rfl⟩
  · obtain ⟨ws, r, hl, hs⟩ := exec_shape s.fetched (wake s)
    rw [ht] at hs
    have ht' : t = (s.stores ws).withCpu r := by
      have := Host.Outcome.next.inj hs
      rw [this, show wake s = s.withCpu (wake s).cpu from wake_cpuOnly s, stores_withCpu]
      rfl
    unfold afterExec
    split
    · rename_i f _
      exact ⟨0, [], ({ s with fatal := some f } : State).cpu, by simp, .inl rfl⟩
    · refine ⟨0, ws, (finishEi s.eiPending t).cpu, hl, .inl ?_⟩
      unfold finishEi
      rw [ht']
      split <;> rfl

/-! The instructions that write a control bit, and the cost of every instruction. -/

/-- Every instruction is an ordinary one (`exec_ordinary`) or one of those that write `halted`, `ime`, `eiPending` or `fatal`. -/
theorem Instr.control_cases (i : Instr) :
    Instr.isControl i = false ∨ i = .halt ∨ (∃ pad, i = .stop pad) ∨ i = .di ∨ i = .ei ∨ i = .reti
      ∨ (i.WellFormed = false ∧ ∀ s, ∃ b, exec i s = .next (raiseFatal b s)) := by
  cases i
  all_goals first
    | exact .inl rfl
    | exact .inr (.inl rfl)
    | exact .inr (.inr (.inl ⟨_, rfl⟩))
    | exact .inr (.inr (.inr (.inl rfl)))
    | exact .inr (.inr (.inr (.inr (.inl rfl))))
    | exact .inr (.inr (.inr (.inr (.inr (.inl rfl)))))
    | exact .inr (.inr (.inr (.inr (.inr (.inr ⟨rfl, fun _ => ⟨_, rfl⟩⟩)))))

/-- An instruction that does not raise Fatal costs 4 to 24 cycles. -/
theorem exec_cost {i : Instr} {s t : State} (h : exec i s = .next t) (ht : t.fatal = none) :
    4 ≤ t.cycles ∧ t.cycles ≤ 24 := by
  rcases Instr.control_cases i with hi | rfl | ⟨p, rfl⟩ | rfl | rfl | rfl | ⟨-, hb⟩
  · obtain ⟨u, e, -, -, -, -, h5⟩ := exec_ordinary i s hi
    rw [h] at e
    rw [Host.Outcome.next.inj e]
    exact h5
  · rw [← Host.Outcome.next.inj h]
    exact ⟨by show 4 ≤ 4; decide, by show 4 ≤ 24; decide⟩
  · have h' : exec_stop p s = .next t := h
    unfold exec_stop at h'
    split at h' <;> rw [← Host.Outcome.next.inj h'] at ht ⊢
    · exact ⟨by show 4 ≤ 4; decide, by show 4 ≤ 24; decide⟩
    · simp [raiseFatal] at ht
  · rw [← Host.Outcome.next.inj h]
    exact ⟨by show 4 ≤ 4; decide, by show 4 ≤ 24; decide⟩
  · have h' : exec_ei s = .next t := h
    unfold exec_ei at h'
    split at h' <;> rw [← Host.Outcome.next.inj h']
    · exact ⟨by show 4 ≤ 4; decide, by show 4 ≤ 24; decide⟩
    · exact ⟨by show 4 ≤ 4; decide, by show 4 ≤ 24; decide⟩
  · rw [← Host.Outcome.next.inj h]
    exact ⟨by show 4 ≤ 16; decide, by show 16 ≤ 24; decide⟩
  · obtain ⟨b, e⟩ := hb s
    rw [h] at e
    rw [Host.Outcome.next.inj e] at ht
    simp [raiseFatal] at ht

/-- `CpuStep` changes neither the counter nor the parameters. -/
theorem cpuStep_now_cfg {s u : State} (h : cpuStep s = .next u) : u.now = s.now ∧ u.cfg = s.cfg := by
  obtain ⟨v, ws, r, -, e | e⟩ := cpuStep_shape h
  · rw [e]
    exact ⟨(stores_sameOffBus s ws).now, (stores_sameOffBus s ws).cfg⟩
  · rw [e]
    exact ⟨(stores_sameOffBus _ ws).now, (stores_sameOffBus _ ws).cfg⟩

/-- What the rest of a machine step leaves alone: it only adds the cost to the counter. -/
theorem finishStep_fields {u t : State} (h : finishStep u = .next t) :
    t.cpu = u.cpu ∧ t.now = u.now + u.cycles ∧ t.cfg = u.cfg ∧ t.bootActive = u.bootActive ∧ t.cart = u.cart
      ∧ t.cartRam = u.cartRam ∧ t.wram = u.wram ∧ t.hram = u.hram ∧ t.vram = u.vram ∧ t.oam = u.oam ∧ t.ie = u.ie := by
  obtain ⟨-, rfl⟩ := finishStep_cases h
  rw [hostKey_only]
  have k := passTime_only u
  generalize passTime u = w at k
  unfold OnlyHandlers at k
  rw [k]
  exact ⟨rfl, rfl, rfl, rfl, rfl, rfl, rfl, rfl, rfl, rfl, rfl⟩

end Sys2Proof.Machine
end

