-- ==== Sys2Proof/Tests/Slice0.lean ====
section
/-! SUPPORT. The model's own tests. Every expected value comes from the spec: the decode tables of R153 and R154,
the vectors and worked examples of 95_test_vectors.md (their labels are in the docstrings), and the worked examples
R379 and R435. After them stand the witnesses: for every obligation with hypotheses, a state and operands that meet
them. The theorems are elaborated one after another: as tasks, each waiting for the kernel, they would take a thread
and its stack each. -/

namespace Sys2Proof.Tests

open Sys2Proof Sys2Proof.Machine

set_option Elab.async false

/-! Helpers. -/

/-- The start state of 95_test_vectors.md: PostBoot with the display switched off and IF cleared. -/
def quiet (cfg : Config) : State :=
  { resetPostBoot cfg .noMbc with
    mode := .hBlank
    entries := [panicSentinel]
    io := [(offDIV, 0xAB), (offTAC, 0xF8), (offBGP, 0xFC), (offBOOT, 0x01)] }

/-- The start state with these parameters and a program at `pc` in the image. -/
def startIn (cfg : Config) (pc : Word) (code : List Byte) : State :=
  { quiet { cfg with rom := Memory.ofBytesFrom pc.toNat code } with pc := pc }

/-- The same with the default parameters. -/
def start (pc : Word) (code : List Byte) : State := startIn Config.initial pc code

/-- The answer is a next state that `ok` accepts. -/
def meets (r : Result) (ok : State → Bool) : Bool :=
  match r with
  | .next t => ok t
  | _ => false

/-- Each step goes on, to a state that its check accepts. -/
def stepsMeet (vectors : List (State × (State → Bool))) : Bool := vectors.all fun v => meets (step v.1) v.2

/-- The bytes decode to the instruction, all of them. -/
def decodesTo (row : List Byte × Instr) : Bool :=
  match decode row.1 with
  | .ok (i, rest) => decide (i = row.2) && rest.isEmpty
  | .error _ => false

def decodeAll (rows : List (List Byte × Instr)) : Bool := rows.all decodesTo

theorem next_of_meets {r : Result} {ok : State → Bool} (h : meets r ok = true) : ∃ t, r = .next t ∧ ok t = true := by
  cases r with
  | next t => exact ⟨t, rfl, h⟩
  | fault _ => cases h
  | refused _ => cases h

/-! Well-formedness: the check refuses each term that names no instruction (R156), and only such. -/

def refused (row : Instr × Byte) : Bool :=
  !row.1.WellFormed && match row.1.check with | .error (.namesNoInstruction op) => op == row.2 | .ok _ => false

def accepted (i : Instr) : Bool := i.WellFormed && match i.check with | .ok _ => true | .error _ => false

theorem test_check_refuses_illegal_bytes :
    refused (.illegal_D3, 0xD3) ∧ refused (.illegal_DB, 0xDB) ∧ refused (.illegal_DD, 0xDD)
      ∧ refused (.illegal_E3, 0xE3) ∧ refused (.illegal_E4, 0xE4) ∧ refused (.illegal_EB, 0xEB)
      ∧ refused (.illegal_EC, 0xEC) ∧ refused (.illegal_ED, 0xED) ∧ refused (.illegal_F4, 0xF4)
      ∧ refused (.illegal_FC, 0xFC) ∧ refused (.illegal_FD, 0xFD) := by
  decide +kernel

theorem test_check_accepts :
    accepted .nop ∧ accepted (.ld_b_d8 0xFF) ∧ accepted (.jp_a16 0x0000) ∧ accepted (.stop 0xDD) ∧ accepted .set_2_e := by
  decide +kernel

/-! Decoding, row by row from the tables of R153 and R154. The immediates are 0x9A, and 0xBC9A with the low byte first. -/

/-- Rows 0x to 3x of R153. -/
theorem test_decode_base_0x_to_3x :
    (decodeAll [([0x00], .nop), ([0x01, 0x9A, 0xBC], .ld_bc_d16 0xBC9A), ([0x02], .ld_atBC_a), ([0x03], .inc_bc),
        ([0x04], .inc_b), ([0x05], .dec_b), ([0x06, 0x9A], .ld_b_d8 0x9A), ([0x07], .rlca),
        ([0x08, 0x9A, 0xBC], .ld_atA16_sp 0xBC9A), ([0x09], .add_hl_bc), ([0x0A], .ld_a_atBC), ([0x0B], .dec_bc),
        ([0x0C], .inc_c), ([0x0D], .dec_c), ([0x0E, 0x9A], .ld_c_d8 0x9A), ([0x0F], .rrca)]
      && decodeAll [([0x10, 0x9A], .stop 0x9A), ([0x11, 0x9A, 0xBC], .ld_de_d16 0xBC9A), ([0x12], .ld_atDE_a),
        ([0x13], .inc_de),
        ([0x14], .inc_d), ([0x15], .dec_d), ([0x16, 0x9A], .ld_d_d8 0x9A), ([0x17], .rla),
        ([0x18, 0x9A], .jr_e8 0x9A), ([0x19], .add_hl_de), ([0x1A], .ld_a_atDE), ([0x1B], .dec_de), ([0x1C], .inc_e),
        ([0x1D], .dec_e), ([0x1E, 0x9A], .ld_e_d8 0x9A), ([0x1F], .rra)]
      && decodeAll [([0x20, 0x9A], .jr_nz_e8 0x9A), ([0x21, 0x9A, 0xBC], .ld_hl_d16 0xBC9A), ([0x22], .ld_atHLinc_a),
        ([0x23], .inc_hl), ([0x24], .inc_h), ([0x25], .dec_h), ([0x26, 0x9A], .ld_h_d8 0x9A), ([0x27], .daa),
        ([0x28, 0x9A], .jr_z_e8 0x9A), ([0x29], .add_hl_hl), ([0x2A], .ld_a_atHLinc), ([0x2B], .dec_hl),
        ([0x2C], .inc_l), ([0x2D], .dec_l), ([0x2E, 0x9A], .ld_l_d8 0x9A), ([0x2F], .cpl)]
      && decodeAll [([0x30, 0x9A], .jr_nc_e8 0x9A), ([0x31, 0x9A, 0xBC], .ld_sp_d16 0xBC9A), ([0x32], .ld_atHLdec_a),
        ([0x33], .inc_sp), ([0x34], .inc_atHL), ([0x35], .dec_atHL), ([0x36, 0x9A], .ld_atHL_d8 0x9A),
        ([0x37], .scf), ([0x38, 0x9A], .jr_c_e8 0x9A), ([0x39], .add_hl_sp), ([0x3A], .ld_a_atHLdec),
        ([0x3B], .dec_sp), ([0x3C], .inc_a), ([0x3D], .dec_a), ([0x3E, 0x9A], .ld_a_d8 0x9A), ([0x3F], .ccf)]) = true := by
  decide +kernel

/-- Rows 4x to 7x of R153. -/
theorem test_decode_base_4x_to_7x :
    (decodeAll [([0x40], .ld_b_b), ([0x41], .ld_b_c), ([0x42], .ld_b_d), ([0x43], .ld_b_e), ([0x44], .ld_b_h),
        ([0x45], .ld_b_l), ([0x46], .ld_b_atHL), ([0x47], .ld_b_a), ([0x48], .ld_c_b), ([0x49], .ld_c_c),
        ([0x4A], .ld_c_d), ([0x4B], .ld_c_e), ([0x4C], .ld_c_h), ([0x4D], .ld_c_l), ([0x4E], .ld_c_atHL),
        ([0x4F], .ld_c_a)]
      && decodeAll [([0x50], .ld_d_b), ([0x51], .ld_d_c), ([0x52], .ld_d_d), ([0x53], .ld_d_e), ([0x54], .ld_d_h),
        ([0x55], .ld_d_l), ([0x56], .ld_d_atHL), ([0x57], .ld_d_a), ([0x58], .ld_e_b), ([0x59], .ld_e_c),
        ([0x5A], .ld_e_d), ([0x5B], .ld_e_e), ([0x5C], .ld_e_h), ([0x5D], .ld_e_l), ([0x5E], .ld_e_atHL),
        ([0x5F], .ld_e_a)]
      && decodeAll [([0x60], .ld_h_b), ([0x61], .ld_h_c), ([0x62], .ld_h_d), ([0x63], .ld_h_e), ([0x64], .ld_h_h),
        ([0x65], .ld_h_l), ([0x66], .ld_h_atHL), ([0x67], .ld_h_a), ([0x68], .ld_l_b), ([0x69], .ld_l_c),
        ([0x6A], .ld_l_d), ([0x6B], .ld_l_e), ([0x6C], .ld_l_h), ([0x6D], .ld_l_l), ([0x6E], .ld_l_atHL),
        ([0x6F], .ld_l_a)]
      && decodeAll [([0x70], .ld_atHL_b), ([0x71], .ld_atHL_c), ([0x72], .ld_atHL_d), ([0x73], .ld_atHL_e), ([0x74],
        .ld_atHL_h),
        ([0x75], .ld_atHL_l), ([0x76], .halt), ([0x77], .ld_atHL_a), ([0x78], .ld_a_b), ([0x79], .ld_a_c),
        ([0x7A], .ld_a_d), ([0x7B], .ld_a_e), ([0x7C], .ld_a_h), ([0x7D], .ld_a_l), ([0x7E], .ld_a_atHL),
        ([0x7F], .ld_a_a)]) = true := by
  decide +kernel

/-- Rows 8x to Bx of R153. -/
theorem test_decode_base_8x_to_Bx :
    (decodeAll [([0x80], .add_a_b), ([0x81], .add_a_c), ([0x82], .add_a_d), ([0x83], .add_a_e), ([0x84], .add_a_h),
        ([0x85], .add_a_l), ([0x86], .add_a_atHL), ([0x87], .add_a_a), ([0x88], .adc_a_b), ([0x89], .adc_a_c),
        ([0x8A], .adc_a_d), ([0x8B], .adc_a_e), ([0x8C], .adc_a_h), ([0x8D], .adc_a_l), ([0x8E], .adc_a_atHL),
        ([0x8F], .adc_a_a)]
      && decodeAll [([0x90], .sub_b), ([0x91], .sub_c), ([0x92], .sub_d), ([0x93], .sub_e), ([0x94], .sub_h), ([0x95],
        .sub_l),
        ([0x96], .sub_atHL), ([0x97], .sub_a), ([0x98], .sbc_a_b), ([0x99], .sbc_a_c), ([0x9A], .sbc_a_d),
        ([0x9B], .sbc_a_e), ([0x9C], .sbc_a_h), ([0x9D], .sbc_a_l), ([0x9E], .sbc_a_atHL), ([0x9F], .sbc_a_a)]
      && decodeAll [([0xA0], .and_b), ([0xA1], .and_c), ([0xA2], .and_d), ([0xA3], .and_e), ([0xA4], .and_h), ([0xA5],
        .and_l),
        ([0xA6], .and_atHL), ([0xA7], .and_a), ([0xA8], .xor_b), ([0xA9], .xor_c), ([0xAA], .xor_d),
        ([0xAB], .xor_e), ([0xAC], .xor_h), ([0xAD], .xor_l), ([0xAE], .xor_atHL), ([0xAF], .xor_a)]
      && decodeAll [([0xB0], .or_b), ([0xB1], .or_c), ([0xB2], .or_d), ([0xB3], .or_e), ([0xB4], .or_h), ([0xB5], .or_l),
        ([0xB6], .or_atHL), ([0xB7], .or_a), ([0xB8], .cp_b), ([0xB9], .cp_c), ([0xBA], .cp_d), ([0xBB], .cp_e),
        ([0xBC], .cp_h), ([0xBD], .cp_l), ([0xBE], .cp_atHL), ([0xBF], .cp_a)]) = true := by
  decide +kernel

/-- Rows Cx to Fx of R153. -/
theorem test_decode_base_Cx_to_Fx :
    (decodeAll [([0xC0], .ret_nz), ([0xC1], .pop_bc), ([0xC2, 0x9A, 0xBC], .jp_nz_a16 0xBC9A),
        ([0xC3, 0x9A, 0xBC], .jp_a16 0xBC9A), ([0xC4, 0x9A, 0xBC], .call_nz_a16 0xBC9A), ([0xC5], .push_bc),
        ([0xC6, 0x9A], .add_a_d8 0x9A), ([0xC7], .rst_00), ([0xC8], .ret_z), ([0xC9], .ret),
        ([0xCA, 0x9A, 0xBC], .jp_z_a16 0xBC9A), ([0xCC, 0x9A, 0xBC], .call_z_a16 0xBC9A),
        ([0xCD, 0x9A, 0xBC], .call_a16 0xBC9A), ([0xCE, 0x9A], .adc_a_d8 0x9A), ([0xCF], .rst_08)]
      && decodeAll [([0xD0], .ret_nc), ([0xD1], .pop_de), ([0xD2, 0x9A, 0xBC], .jp_nc_a16 0xBC9A), ([0xD3], .illegal_D3),
        ([0xD4, 0x9A, 0xBC], .call_nc_a16 0xBC9A), ([0xD5], .push_de), ([0xD6, 0x9A], .sub_d8 0x9A),
        ([0xD7], .rst_10), ([0xD8], .ret_c), ([0xD9], .reti), ([0xDA, 0x9A, 0xBC], .jp_c_a16 0xBC9A),
        ([0xDB], .illegal_DB), ([0xDC, 0x9A, 0xBC], .call_c_a16 0xBC9A), ([0xDD], .illegal_DD),
        ([0xDE, 0x9A], .sbc_a_d8 0x9A), ([0xDF], .rst_18)]
      && decodeAll [([0xE0, 0x9A], .ldh_atA8_a 0x9A), ([0xE1], .pop_hl), ([0xE2], .ldh_atC_a), ([0xE3], .illegal_E3),
        ([0xE4], .illegal_E4), ([0xE5], .push_hl), ([0xE6, 0x9A], .and_d8 0x9A), ([0xE7], .rst_20),
        ([0xE8, 0x9A], .add_sp_e8 0x9A), ([0xE9], .jp_hl), ([0xEA, 0x9A, 0xBC], .ld_atA16_a 0xBC9A),
        ([0xEB], .illegal_EB), ([0xEC], .illegal_EC), ([0xED], .illegal_ED), ([0xEE, 0x9A], .xor_d8 0x9A),
        ([0xEF], .rst_28)]
      && decodeAll [([0xF0, 0x9A], .ldh_a_atA8 0x9A), ([0xF1], .pop_af), ([0xF2], .ldh_a_atC), ([0xF3], .di),
        ([0xF4], .illegal_F4), ([0xF5], .push_af), ([0xF6, 0x9A], .or_d8 0x9A), ([0xF7], .rst_30),
        ([0xF8, 0x9A], .ld_hl_sp_e8 0x9A), ([0xF9], .ld_sp_hl), ([0xFA, 0x9A, 0xBC], .ld_a_atA16 0xBC9A),
        ([0xFB], .ei), ([0xFC], .illegal_FC), ([0xFD], .illegal_FD), ([0xFE, 0x9A], .cp_d8 0x9A), ([0xFF],
        .rst_38)]) = true := by
  decide +kernel

/-- Rows 0x to 3x of R154. -/
theorem test_decode_cb_0x_to_3x :
    (decodeAll [([0xCB, 0x00], .rlc_b), ([0xCB, 0x01], .rlc_c), ([0xCB, 0x02], .rlc_d), ([0xCB, 0x03], .rlc_e),
        ([0xCB, 0x04], .rlc_h), ([0xCB, 0x05], .rlc_l), ([0xCB, 0x06], .rlc_atHL), ([0xCB, 0x07], .rlc_a),
        ([0xCB, 0x08], .rrc_b), ([0xCB, 0x09], .rrc_c), ([0xCB, 0x0A], .rrc_d), ([0xCB, 0x0B], .rrc_e),
        ([0xCB, 0x0C], .rrc_h), ([0xCB, 0x0D], .rrc_l), ([0xCB, 0x0E], .rrc_atHL), ([0xCB, 0x0F], .rrc_a)]
      && decodeAll [([0xCB, 0x10], .rl_b), ([0xCB, 0x11], .rl_c), ([0xCB, 0x12], .rl_d), ([0xCB, 0x13], .rl_e),
        ([0xCB, 0x14], .rl_h), ([0xCB, 0x15], .rl_l), ([0xCB, 0x16], .rl_atHL), ([0xCB, 0x17], .rl_a),
        ([0xCB, 0x18], .rr_b), ([0xCB, 0x19], .rr_c), ([0xCB, 0x1A], .rr_d), ([0xCB, 0x1B], .rr_e),
        ([0xCB, 0x1C], .rr_h), ([0xCB, 0x1D], .rr_l), ([0xCB, 0x1E], .rr_atHL), ([0xCB, 0x1F], .rr_a)]
      && decodeAll [([0xCB, 0x20], .sla_b), ([0xCB, 0x21], .sla_c), ([0xCB, 0x22], .sla_d), ([0xCB, 0x23], .sla_e),
        ([0xCB, 0x24], .sla_h), ([0xCB, 0x25], .sla_l), ([0xCB, 0x26], .sla_atHL), ([0xCB, 0x27], .sla_a),
        ([0xCB, 0x28], .sra_b), ([0xCB, 0x29], .sra_c), ([0xCB, 0x2A], .sra_d), ([0xCB, 0x2B], .sra_e),
        ([0xCB, 0x2C], .sra_h), ([0xCB, 0x2D], .sra_l), ([0xCB, 0x2E], .sra_atHL), ([0xCB, 0x2F], .sra_a)]
      && decodeAll [([0xCB, 0x30], .swap_b), ([0xCB, 0x31], .swap_c), ([0xCB, 0x32], .swap_d), ([0xCB, 0x33], .swap_e),
        ([0xCB, 0x34], .swap_h), ([0xCB, 0x35], .swap_l), ([0xCB, 0x36], .swap_atHL), ([0xCB, 0x37], .swap_a),
        ([0xCB, 0x38], .srl_b), ([0xCB, 0x39], .srl_c), ([0xCB, 0x3A], .srl_d), ([0xCB, 0x3B], .srl_e),
        ([0xCB, 0x3C], .srl_h), ([0xCB, 0x3D], .srl_l), ([0xCB, 0x3E], .srl_atHL), ([0xCB, 0x3F], .srl_a)]) = true := by
  decide +kernel

/-- Rows 4x to 7x of R154. -/
theorem test_decode_cb_4x_to_7x :
    (decodeAll [([0xCB, 0x40], .bit_0_b), ([0xCB, 0x41], .bit_0_c), ([0xCB, 0x42], .bit_0_d), ([0xCB, 0x43], .bit_0_e),
        ([0xCB, 0x44], .bit_0_h), ([0xCB, 0x45], .bit_0_l), ([0xCB, 0x46], .bit_0_atHL), ([0xCB, 0x47], .bit_0_a),
        ([0xCB, 0x48], .bit_1_b), ([0xCB, 0x49], .bit_1_c), ([0xCB, 0x4A], .bit_1_d), ([0xCB, 0x4B], .bit_1_e),
        ([0xCB, 0x4C], .bit_1_h), ([0xCB, 0x4D], .bit_1_l), ([0xCB, 0x4E], .bit_1_atHL), ([0xCB, 0x4F], .bit_1_a)]
      && decodeAll [([0xCB, 0x50], .bit_2_b), ([0xCB, 0x51], .bit_2_c), ([0xCB, 0x52], .bit_2_d), ([0xCB, 0x53], .bit_2_e),
        ([0xCB, 0x54], .bit_2_h), ([0xCB, 0x55], .bit_2_l), ([0xCB, 0x56], .bit_2_atHL), ([0xCB, 0x57], .bit_2_a),
        ([0xCB, 0x58], .bit_3_b), ([0xCB, 0x59], .bit_3_c), ([0xCB, 0x5A], .bit_3_d), ([0xCB, 0x5B], .bit_3_e),
        ([0xCB, 0x5C], .bit_3_h), ([0xCB, 0x5D], .bit_3_l), ([0xCB, 0x5E], .bit_3_atHL), ([0xCB, 0x5F], .bit_3_a)]
      && decodeAll [([0xCB, 0x60], .bit_4_b), ([0xCB, 0x61], .bit_4_c), ([0xCB, 0x62], .bit_4_d), ([0xCB, 0x63], .bit_4_e),
        ([0xCB, 0x64], .bit_4_h), ([0xCB, 0x65], .bit_4_l), ([0xCB, 0x66], .bit_4_atHL), ([0xCB, 0x67], .bit_4_a),
        ([0xCB, 0x68], .bit_5_b), ([0xCB, 0x69], .bit_5_c), ([0xCB, 0x6A], .bit_5_d), ([0xCB, 0x6B], .bit_5_e),
        ([0xCB, 0x6C], .bit_5_h), ([0xCB, 0x6D], .bit_5_l), ([0xCB, 0x6E], .bit_5_atHL), ([0xCB, 0x6F], .bit_5_a)]
      && decodeAll [([0xCB, 0x70], .bit_6_b), ([0xCB, 0x71], .bit_6_c), ([0xCB, 0x72], .bit_6_d), ([0xCB, 0x73], .bit_6_e),
        ([0xCB, 0x74], .bit_6_h), ([0xCB, 0x75], .bit_6_l), ([0xCB, 0x76], .bit_6_atHL), ([0xCB, 0x77], .bit_6_a),
        ([0xCB, 0x78], .bit_7_b), ([0xCB, 0x79], .bit_7_c), ([0xCB, 0x7A], .bit_7_d), ([0xCB, 0x7B], .bit_7_e),
        ([0xCB, 0x7C], .bit_7_h), ([0xCB, 0x7D], .bit_7_l), ([0xCB, 0x7E], .bit_7_atHL), ([0xCB, 0x7F],
        .bit_7_a)]) = true := by
  decide +kernel

/-- Rows 8x to Bx of R154. -/
theorem test_decode_cb_8x_to_Bx :
    (decodeAll [([0xCB, 0x80], .res_0_b), ([0xCB, 0x81], .res_0_c), ([0xCB, 0x82], .res_0_d), ([0xCB, 0x83], .res_0_e),
        ([0xCB, 0x84], .res_0_h), ([0xCB, 0x85], .res_0_l), ([0xCB, 0x86], .res_0_atHL), ([0xCB, 0x87], .res_0_a),
        ([0xCB, 0x88], .res_1_b), ([0xCB, 0x89], .res_1_c), ([0xCB, 0x8A], .res_1_d), ([0xCB, 0x8B], .res_1_e),
        ([0xCB, 0x8C], .res_1_h), ([0xCB, 0x8D], .res_1_l), ([0xCB, 0x8E], .res_1_atHL), ([0xCB, 0x8F], .res_1_a)]
      && decodeAll [([0xCB, 0x90], .res_2_b), ([0xCB, 0x91], .res_2_c), ([0xCB, 0x92], .res_2_d), ([0xCB, 0x93], .res_2_e),
        ([0xCB, 0x94], .res_2_h), ([0xCB, 0x95], .res_2_l), ([0xCB, 0x96], .res_2_atHL), ([0xCB, 0x97], .res_2_a),
        ([0xCB, 0x98], .res_3_b), ([0xCB, 0x99], .res_3_c), ([0xCB, 0x9A], .res_3_d), ([0xCB, 0x9B], .res_3_e),
        ([0xCB, 0x9C], .res_3_h), ([0xCB, 0x9D], .res_3_l), ([0xCB, 0x9E], .res_3_atHL), ([0xCB, 0x9F], .res_3_a)]
      && decodeAll [([0xCB, 0xA0], .res_4_b), ([0xCB, 0xA1], .res_4_c), ([0xCB, 0xA2], .res_4_d), ([0xCB, 0xA3], .res_4_e),
        ([0xCB, 0xA4], .res_4_h), ([0xCB, 0xA5], .res_4_l), ([0xCB, 0xA6], .res_4_atHL), ([0xCB, 0xA7], .res_4_a),
        ([0xCB, 0xA8], .res_5_b), ([0xCB, 0xA9], .res_5_c), ([0xCB, 0xAA], .res_5_d), ([0xCB, 0xAB], .res_5_e),
        ([0xCB, 0xAC], .res_5_h), ([0xCB, 0xAD], .res_5_l), ([0xCB, 0xAE], .res_5_atHL), ([0xCB, 0xAF], .res_5_a)]
      && decodeAll [([0xCB, 0xB0], .res_6_b), ([0xCB, 0xB1], .res_6_c), ([0xCB, 0xB2], .res_6_d), ([0xCB, 0xB3], .res_6_e),
        ([0xCB, 0xB4], .res_6_h), ([0xCB, 0xB5], .res_6_l), ([0xCB, 0xB6], .res_6_atHL), ([0xCB, 0xB7], .res_6_a),
        ([0xCB, 0xB8], .res_7_b), ([0xCB, 0xB9], .res_7_c), ([0xCB, 0xBA], .res_7_d), ([0xCB, 0xBB], .res_7_e),
        ([0xCB, 0xBC], .res_7_h), ([0xCB, 0xBD], .res_7_l), ([0xCB, 0xBE], .res_7_atHL), ([0xCB, 0xBF],
        .res_7_a)]) = true := by
  decide +kernel

/-- Rows Cx to Fx of R154. -/
theorem test_decode_cb_Cx_to_Fx :
    (decodeAll [([0xCB, 0xC0], .set_0_b), ([0xCB, 0xC1], .set_0_c), ([0xCB, 0xC2], .set_0_d), ([0xCB, 0xC3], .set_0_e),
        ([0xCB, 0xC4], .set_0_h), ([0xCB, 0xC5], .set_0_l), ([0xCB, 0xC6], .set_0_atHL), ([0xCB, 0xC7], .set_0_a),
        ([0xCB, 0xC8], .set_1_b), ([0xCB, 0xC9], .set_1_c), ([0xCB, 0xCA], .set_1_d), ([0xCB, 0xCB], .set_1_e),
        ([0xCB, 0xCC], .set_1_h), ([0xCB, 0xCD], .set_1_l), ([0xCB, 0xCE], .set_1_atHL), ([0xCB, 0xCF], .set_1_a)]
      && decodeAll [([0xCB, 0xD0], .set_2_b), ([0xCB, 0xD1], .set_2_c), ([0xCB, 0xD2], .set_2_d), ([0xCB, 0xD3], .set_2_e),
        ([0xCB, 0xD4], .set_2_h), ([0xCB, 0xD5], .set_2_l), ([0xCB, 0xD6], .set_2_atHL), ([0xCB, 0xD7], .set_2_a),
        ([0xCB, 0xD8], .set_3_b), ([0xCB, 0xD9], .set_3_c), ([0xCB, 0xDA], .set_3_d), ([0xCB, 0xDB], .set_3_e),
        ([0xCB, 0xDC], .set_3_h), ([0xCB, 0xDD], .set_3_l), ([0xCB, 0xDE], .set_3_atHL), ([0xCB, 0xDF], .set_3_a)]
      && decodeAll [([0xCB, 0xE0], .set_4_b), ([0xCB, 0xE1], .set_4_c), ([0xCB, 0xE2], .set_4_d), ([0xCB, 0xE3], .set_4_e),
        ([0xCB, 0xE4], .set_4_h), ([0xCB, 0xE5], .set_4_l), ([0xCB, 0xE6], .set_4_atHL), ([0xCB, 0xE7], .set_4_a),
        ([0xCB, 0xE8], .set_5_b), ([0xCB, 0xE9], .set_5_c), ([0xCB, 0xEA], .set_5_d), ([0xCB, 0xEB], .set_5_e),
        ([0xCB, 0xEC], .set_5_h), ([0xCB, 0xED], .set_5_l), ([0xCB, 0xEE], .set_5_atHL), ([0xCB, 0xEF], .set_5_a)]
      && decodeAll [([0xCB, 0xF0], .set_6_b), ([0xCB, 0xF1], .set_6_c), ([0xCB, 0xF2], .set_6_d), ([0xCB, 0xF3], .set_6_e),
        ([0xCB, 0xF4], .set_6_h), ([0xCB, 0xF5], .set_6_l), ([0xCB, 0xF6], .set_6_atHL), ([0xCB, 0xF7], .set_6_a),
        ([0xCB, 0xF8], .set_7_b), ([0xCB, 0xF9], .set_7_c), ([0xCB, 0xFA], .set_7_d), ([0xCB, 0xFB], .set_7_e),
        ([0xCB, 0xFC], .set_7_h), ([0xCB, 0xFD], .set_7_l), ([0xCB, 0xFE], .set_7_atHL), ([0xCB, 0xFF],
        .set_7_a)]) = true := by
  decide +kernel

/-! One step of each instruction, from the vectors of 95_test_vectors.md. -/

/-- L1 LD B,C, L2 LD A,A, L3 LD B,d8, L4 LD H,(HL), L5 LD (HL),L, L6 LD (HL),B, L7 LD (HL),d8, L8 LD A,(HL), L9 LD
A,(BC), L10 LD A,(a16). -/
theorem test_load8_vectors_1 :
    stepsMeet [({ start 0x0100 [0x41] with b := 0x12, c := 0x34 },
        fun t => t.b == 0x34 && t.c == 0x34 && t.pc == 0x0101 && t.cycles == 4),
      ({ start 0x0100 [0x7F] with a := 0x9C, f := 0xF0 },
        fun t => t.a == 0x9C && t.f == 0xF0 && t.pc == 0x0101 && t.cycles == 4),
      ({ start 0x0100 [0x06, 0x00] with b := 0xFF, f := 0x00 },
        fun t => t.b == 0x00 && t.f == 0x00 && t.pc == 0x0102 && t.cycles == 8),
      (busWrite { start 0x0100 [0x66] with h := 0xC0, l := 0xC1 } 0xC0C1 0x7B,
        fun t => t.hl == 0x7BC1 && t.pc == 0x0101 && t.cycles == 8),
      ({ start 0x0100 [0x75] with h := 0xC2, l := 0x34 },
        fun t => busRead t 0xC234 == 0x34 && t.pc == 0x0101 && t.cycles == 8),
      ({ start 0x0100 [0x70] with h := 0x20, l := 0x00, b := 0x05 },
        fun t => busRead t 0x2000 == 0x00 && t.pc == 0x0101 && t.cycles == 8),
      ({ start 0x0100 [0x36, 0x99] with h := 0xE0, l := 0x10 },
        fun t => busRead t 0xC010 == 0x99 && busRead t 0xE010 == 0x99 && t.pc == 0x0102 && t.cycles == 12),
      ({ start 0x0100 [0x7E] with h := 0xFE, l := 0xA0, a := 0x00 },
        fun t => t.a == 0xFF && t.pc == 0x0101 && t.cycles == 8),
      ({ start 0x0100 [0x0A] with b := 0xFF, c := 0xFF, ie := 0x15 },
        fun t => t.a == 0x15 && t.pc == 0x0101 && t.cycles == 8),
      ({ start 0x0100 [0xFA, 0xFF, 0xFF] with ie := 0xE4 },
        fun t => t.a == 0xE4 && t.pc == 0x0103 && t.cycles == 16)] = true := by
  decide +kernel

/-- L11 LD (a16),A, L12 LDH A,(C), L13 LDH (C),A, L14 LDH A,(a8), L15 LDH (a8),A, L16 LD A,(HL-), L17 LD A,(HL+), L18
LD (HL+),A, L19 LD (HL-),A. -/
theorem test_load8_vectors_2 :
    stepsMeet [({ start 0x0100 [0xEA, 0x04, 0xFF] with a := 0x77 },
        fun t => t.ioByte offDIV == 0x00 && t.divSub == 16 && t.pc == 0x0103 && t.cycles == 16),
      (busWrite { start 0x0100 [0xF2] with c := 0x80 } 0xFF80 0x3D,
        fun t => t.a == 0x3D && t.pc == 0x0101 && t.cycles == 8),
      ({ start 0x0100 [0xE2] with c := 0xFF, a := 0x1F },
        fun t => t.a == 0x1F && busRead t 0xFFFF == 0x1F && t.pc == 0x0101 && t.cycles == 8),
      (start 0x0100 [0xF0, 0x00],
        fun t => t.a == 0xCF && t.pc == 0x0102 && t.cycles == 12),
      ({ start 0x0100 [0xE0, 0x41] with a := 0xFF },
        fun t => busRead t 0xFF41 == 0xFC && t.pc == 0x0102 && t.cycles == 12),
      ({ start 0x0100 [0x3A] with h := 0x00, l := 0x00, a := 0x55 },
        fun t => t.a == 0x00 && t.hl == 0xFFFF && t.pc == 0x0101 && t.cycles == 8),
      ({ start 0x0100 [0x2A] with h := 0xFF, l := 0xFF, ie := 0x0B },
        fun t => t.a == 0x0B && t.hl == 0x0000 && t.pc == 0x0101 && t.cycles == 8),
      ({ start 0x0100 [0x22] with h := 0xDF, l := 0xFF, a := 0xEE },
        fun t => busRead t 0xDFFF == 0xEE && t.hl == 0xE000 && t.pc == 0x0101 && t.cycles == 8),
      ({ start 0x0100 [0x32] with h := 0xFE, l := 0x00, a := 0x21 },
        fun t => busRead t 0xFE00 == 0x21 && t.hl == 0xFDFF && t.pc == 0x0101 && t.cycles == 8)] = true := by
  decide +kernel

/-- W1 LD BC,d16, W2 LD SP,d16, W3 LD (a16),SP, W4 LD (a16),SP, W5 LD SP,HL, W6 PUSH AF, W7 PUSH BC, W8 POP AF, W9 POP
BC, W10 LD HL,SP+e8. -/
theorem test_load16_vectors_1 :
    stepsMeet [(start 0x0100 [0x01, 0x34, 0x12],
        fun t => t.bc == 0x1234 && t.pc == 0x0103 && t.cycles == 12),
      ({ start 0x0100 [0x31, 0x00, 0x00] with sp := 0xFFFE },
        fun t => t.sp == 0x0000 && t.pc == 0x0103 && t.cycles == 12),
      ({ start 0x0100 [0x08, 0xFF, 0xDF] with sp := 0xBEEF },
        fun t => busRead t 0xDFFF == 0xEF && busRead t 0xE000 == 0xBE && busRead t 0xC000 == 0xBE && t.pc == 0x0103
        && t.cycles == 20),
      ({ start 0x0100 [0x08, 0xFF, 0xFF] with sp := 0x1234 },
        fun t => busRead t 0xFFFF == 0x34 && t.pc == 0x0103 && t.cycles == 20),
      ({ start 0x0100 [0xF9] with h := 0x00, l := 0x00, sp := 0x1234 },
        fun t => t.sp == 0x0000 && t.pc == 0x0101 && t.cycles == 8),
      ({ start 0x0100 [0xF5] with sp := 0xD000, a := 0xAB, f := 0xF0 },
        fun t => t.sp == 0xCFFE && busRead t 0xCFFE == 0xF0 && busRead t 0xCFFF == 0xAB && t.pc == 0x0101
        && t.cycles == 16),
      ({ start 0x0100 [0xC5] with sp := 0x0001, b := 0xA5, c := 0x5A },
        fun t => t.sp == 0xFFFF && busRead t 0xFFFF == 0x5A && t.pc == 0x0101 && t.cycles == 16),
      ((busWrite (busWrite { start 0x0100 [0xF1] with sp := 0xC000 } 0xC000 0x0F) 0xC001 0x80),
        fun t => t.a == 0x80 && t.f == 0x00 && t.sp == 0xC002 && t.pc == 0x0101 && t.cycles == 12),
      ({ start 0x0100 [0xC1] with sp := 0xFFFF, ie := 0x34 },
        fun t => t.bc == 0x0034 && t.sp == 0x0001 && t.pc == 0x0101 && t.cycles == 12),
      ({ start 0x0100 [0xF8, 0x00] with sp := 0x1234, f := 0xF0 },
        fun t => t.hl == 0x1234 && t.f == 0x00 && t.pc == 0x0102 && t.cycles == 12)] = true := by
  decide +kernel

/-- W11 LD HL,SP+e8. -/
theorem test_load16_vectors_2 :
    stepsMeet [({ start 0x0100 [0xF8, 0x80] with sp := 0x0080, f := 0x00 },
        fun t => t.hl == 0x0000 && t.f == 0x10 && t.pc == 0x0102 && t.cycles == 12)] = true := by
  decide +kernel

/-- A1 ADD A,B, A2 ADD A,B, A5 ADD A,A, A6 ADC A,B, A7 ADC A,B, A9 ADC A,d8, A10 SUB B, A11 SUB B, A12 SUB A, A13 SBC
A,B. -/
theorem test_alu8_vectors_1 :
    stepsMeet [({ start 0x0100 [0x80] with a := 0x0F, b := 0x01, f := 0x00 },
        fun t => t.a == 0x10 && t.f == 0x20 && t.pc == 0x0101 && t.cycles == 4),
      ({ start 0x0100 [0x80] with a := 0xF0, b := 0x10, f := 0x00 },
        fun t => t.a == 0x00 && t.f == 0x90 && t.pc == 0x0101 && t.cycles == 4),
      ({ start 0x0100 [0x87] with a := 0x88, f := 0x00 },
        fun t => t.a == 0x10 && t.f == 0x30 && t.pc == 0x0101 && t.cycles == 4),
      ({ start 0x0100 [0x88] with a := 0x0E, b := 0x01, f := 0x10 },
        fun t => t.a == 0x10 && t.f == 0x20 && t.pc == 0x0101 && t.cycles == 4),
      ({ start 0x0100 [0x88] with a := 0xFF, b := 0xFF, f := 0x10 },
        fun t => t.a == 0xFF && t.f == 0x30 && t.pc == 0x0101 && t.cycles == 4),
      ({ start 0x0100 [0xCE, 0x00] with a := 0xFF, f := 0x10 },
        fun t => t.a == 0x00 && t.f == 0xB0 && t.pc == 0x0102 && t.cycles == 8),
      ({ start 0x0100 [0x90] with a := 0x00, b := 0x01, f := 0x00 },
        fun t => t.a == 0xFF && t.f == 0x70 && t.pc == 0x0101 && t.cycles == 4),
      ({ start 0x0100 [0x90] with a := 0x10, b := 0x01, f := 0x00 },
        fun t => t.a == 0x0F && t.f == 0x60 && t.pc == 0x0101 && t.cycles == 4),
      ({ start 0x0100 [0x97] with a := 0x5C, f := 0x10 },
        fun t => t.a == 0x00 && t.f == 0xC0 && t.pc == 0x0101 && t.cycles == 4),
      ({ start 0x0100 [0x98] with a := 0x00, b := 0x00, f := 0x10 },
        fun t => t.a == 0xFF && t.f == 0x70 && t.pc == 0x0101 && t.cycles == 4)] = true := by
  decide +kernel

/-- A14 SBC A,B, A16 SBC A,d8, A17 CP B, A18 CP A, A19 AND A, A20 AND B, A21 XOR B, A22 OR A, A23 INC B, A24 INC B. -/
theorem test_alu8_vectors_2 :
    stepsMeet [({ start 0x0100 [0x98] with a := 0x10, b := 0x0F, f := 0x10 },
        fun t => t.a == 0x00 && t.f == 0xE0 && t.pc == 0x0101 && t.cycles == 4),
      ({ start 0x0100 [0xDE, 0xFF] with a := 0x00, f := 0x00 },
        fun t => t.a == 0x01 && t.f == 0x70 && t.pc == 0x0102 && t.cycles == 8),
      ({ start 0x0100 [0xB8] with a := 0x00, b := 0x01, f := 0x00 },
        fun t => t.a == 0x00 && t.f == 0x70 && t.pc == 0x0101 && t.cycles == 4),
      ({ start 0x0100 [0xBF] with a := 0x77, f := 0x10 },
        fun t => t.a == 0x77 && t.f == 0xC0 && t.pc == 0x0101 && t.cycles == 4),
      ({ start 0x0100 [0xA7] with a := 0x00, f := 0x50 },
        fun t => t.a == 0x00 && t.f == 0xA0 && t.pc == 0x0101 && t.cycles == 4),
      ({ start 0x0100 [0xA0] with a := 0xF0, b := 0x0F, f := 0x10 },
        fun t => t.a == 0x00 && t.f == 0xA0 && t.pc == 0x0101 && t.cycles == 4),
      ({ start 0x0100 [0xA8] with a := 0x0F, b := 0xF0, f := 0xF0 },
        fun t => t.a == 0xFF && t.f == 0x00 && t.pc == 0x0101 && t.cycles == 4),
      ({ start 0x0100 [0xB7] with a := 0x00, f := 0x70 },
        fun t => t.a == 0x00 && t.f == 0x80 && t.pc == 0x0101 && t.cycles == 4),
      ({ start 0x0100 [0x04] with b := 0x0F, f := 0x10 },
        fun t => t.b == 0x10 && t.f == 0x30 && t.pc == 0x0101 && t.cycles == 4),
      ({ start 0x0100 [0x04] with b := 0x7F, f := 0x00 },
        fun t => t.b == 0x80 && t.f == 0x20 && t.pc == 0x0101 && t.cycles == 4)] = true := by
  decide +kernel

/-- A25 DEC B, A26 DEC B, A27 INC (HL), A28 DEC (HL), A29 DAA, A30 DAA, A37 CPL, A38 SCF, A39 CCF. -/
theorem test_alu8_vectors_3 :
    stepsMeet [({ start 0x0100 [0x05] with b := 0x10, f := 0x00 },
        fun t => t.b == 0x0F && t.f == 0x60 && t.pc == 0x0101 && t.cycles == 4),
      ({ start 0x0100 [0x05] with b := 0x00, f := 0x10 },
        fun t => t.b == 0xFF && t.f == 0x70 && t.pc == 0x0101 && t.cycles == 4),
      (busWrite { start 0x0100 [0x34] with h := 0xC0, l := 0x00, f := 0x00 } 0xC000 0xFF,
        fun t => busRead t 0xC000 == 0x00 && t.f == 0xA0 && t.pc == 0x0101 && t.cycles == 12),
      ({ start 0x0100 [0x35] with h := 0xFF, l := 0x44, f := 0x00 },
        fun t => busRead t 0xFF44 == 0x00 && t.f == 0x60 && t.pc == 0x0101 && t.cycles == 12),
      ({ start 0x0100 [0x27] with a := 0x7D, f := 0x00 },
        fun t => t.a == 0x83 && t.f == 0x00 && t.pc == 0x0101 && t.cycles == 4),
      ({ start 0x0100 [0x27] with a := 0x3C, f := 0x20 },
        fun t => t.a == 0x42 && t.f == 0x00 && t.pc == 0x0101 && t.cycles == 4),
      ({ start 0x0100 [0x2F] with a := 0x00, f := 0x90 },
        fun t => t.a == 0xFF && t.f == 0xF0 && t.pc == 0x0101 && t.cycles == 4),
      ({ start 0x0100 [0x37] with f := 0x00 },
        fun t => t.f == 0x10 && t.pc == 0x0101 && t.cycles == 4),
      ({ start 0x0100 [0x3F] with f := 0x60 },
        fun t => t.f == 0x10 && t.pc == 0x0101 && t.cycles == 4)] = true := by
  decide +kernel

/-- Y4 LD HL,SP+e8, X1 ADD HL,BC, X2 ADD HL,BC, X3 ADD HL,HL, X4 ADD HL,SP, X5 ADD HL,DE, X6 INC SP, X7 INC HL, X8 DEC
SP, X9 DEC HL. -/
theorem test_alu16_vectors_1 :
    stepsMeet [({ startIn { Config.initial with sprelFlags := .byteWord } 0x0100 [0xF8, 0xFF]
          with sp := 0x0001, f := 0x00 },
        fun t => t.hl == 0x0000 && t.f == 0x30 && t.pc == 0x0102 && t.cycles == 12),
      ({ start 0x0100 [0x09] with h := 0x0F, l := 0xFF, b := 0x00, c := 0x01, f := 0x80 },
        fun t => t.hl == 0x1000 && t.f == 0xA0 && t.pc == 0x0101 && t.cycles == 8),
      ({ start 0x0100 [0x09] with h := 0xFF, l := 0xFF, b := 0x00, c := 0x01, f := 0x00 },
        fun t => t.hl == 0x0000 && t.f == 0x30 && t.pc == 0x0101 && t.cycles == 8),
      ({ start 0x0100 [0x29] with h := 0x80, l := 0x00, f := 0x40 },
        fun t => t.hl == 0x0000 && t.f == 0x10 && t.pc == 0x0101 && t.cycles == 8),
      ({ start 0x0100 [0x39] with h := 0x00, l := 0x01, sp := 0xFFFF, f := 0x00 },
        fun t => t.hl == 0x0000 && t.f == 0x30 && t.sp == 0xFFFF && t.pc == 0x0101 && t.cycles == 8),
      ({ start 0x0100 [0x19] with h := 0x08, l := 0x00, d := 0x08, e := 0x00, f := 0x00 },
        fun t => t.hl == 0x1000 && t.f == 0x20 && t.pc == 0x0101 && t.cycles == 8),
      ({ start 0x0100 [0x33] with sp := 0xFFFF, f := 0xF0 },
        fun t => t.sp == 0x0000 && t.f == 0xF0 && t.pc == 0x0101 && t.cycles == 8),
      ({ start 0x0100 [0x23] with h := 0x00, l := 0xFF, f := 0x00 },
        fun t => t.hl == 0x0100 && t.f == 0x00 && t.pc == 0x0101 && t.cycles == 8),
      ({ start 0x0100 [0x3B] with sp := 0x0000, f := 0x00 },
        fun t => t.sp == 0xFFFF && t.f == 0x00 && t.pc == 0x0101 && t.cycles == 8),
      ({ start 0x0100 [0x2B] with h := 0x01, l := 0x00, f := 0xF0 },
        fun t => t.hl == 0x00FF && t.f == 0xF0 && t.pc == 0x0101 && t.cycles == 8)] = true := by
  decide +kernel

/-- X10 ADD SP,e8, Y3 ADD SP,e8. -/
theorem test_alu16_vectors_2 :
    stepsMeet [({ start 0x0100 [0xE8, 0x01] with sp := 0x000F, f := 0xF0 },
        fun t => t.sp == 0x0010 && t.f == 0x20 && t.pc == 0x0102 && t.cycles == 16),
      ({ startIn { Config.initial with sprelFlags := .byteWord } 0x0100 [0xE8, 0x01] with sp := 0xFFFF, f := 0x00 },
        fun t => t.sp == 0x0000 && t.f == 0x30 && t.pc == 0x0102 && t.cycles == 16)] = true := by
  decide +kernel

/-- S2 RLCA, S4 RLCA, S6 RRCA, S8 RRCA, S10 RLA, S12 RLA, S14 RRA, S16 RRA. -/
theorem test_rotate_vectors :
    stepsMeet [({ start 0x0100 [0x07] with a := 0x80, f := 0x00 },
        fun t => t.a == 0x01 && t.f == 0x10 && t.pc == 0x0101 && t.cycles == 4),
      ({ start 0x0100 [0x07] with a := 0xFF, f := 0xF0 },
        fun t => t.a == 0xFF && t.f == 0x10 && t.pc == 0x0101 && t.cycles == 4),
      ({ start 0x0100 [0x0F] with a := 0x80, f := 0x00 },
        fun t => t.a == 0x40 && t.f == 0x00 && t.pc == 0x0101 && t.cycles == 4),
      ({ start 0x0100 [0x0F] with a := 0xFF, f := 0xF0 },
        fun t => t.a == 0xFF && t.f == 0x10 && t.pc == 0x0101 && t.cycles == 4),
      ({ start 0x0100 [0x17] with a := 0x80, f := 0x00 },
        fun t => t.a == 0x00 && t.f == 0x10 && t.pc == 0x0101 && t.cycles == 4),
      ({ start 0x0100 [0x17] with a := 0xFF, f := 0xF0 },
        fun t => t.a == 0xFF && t.f == 0x10 && t.pc == 0x0101 && t.cycles == 4),
      ({ start 0x0100 [0x1F] with a := 0x80, f := 0x00 },
        fun t => t.a == 0x40 && t.f == 0x00 && t.pc == 0x0101 && t.cycles == 4),
      ({ start 0x0100 [0x1F] with a := 0xFF, f := 0xF0 },
        fun t => t.a == 0xFF && t.f == 0x10 && t.pc == 0x0101 && t.cycles == 4)] = true := by
  decide +kernel

/-- T2 RLC B, T4 RLC B, T6 RRC B, T8 RRC B, T10 RL B, T12 RL B, T14 RR B, T16 RR B, T18 SLA B, T20 SLA B. -/
theorem test_rotate_cb_vectors_1 :
    stepsMeet [({ start 0x0100 [0xCB, 0x00] with b := 0x80, f := 0x00 },
        fun t => t.b == 0x01 && t.f == 0x10 && t.pc == 0x0102 && t.cycles == 8),
      ({ start 0x0100 [0xCB, 0x00] with b := 0xFF, f := 0x00 },
        fun t => t.b == 0xFF && t.f == 0x10 && t.pc == 0x0102 && t.cycles == 8),
      ({ start 0x0100 [0xCB, 0x08] with b := 0x80, f := 0x00 },
        fun t => t.b == 0x40 && t.f == 0x00 && t.pc == 0x0102 && t.cycles == 8),
      ({ start 0x0100 [0xCB, 0x08] with b := 0xFF, f := 0x00 },
        fun t => t.b == 0xFF && t.f == 0x10 && t.pc == 0x0102 && t.cycles == 8),
      ({ start 0x0100 [0xCB, 0x10] with b := 0x80, f := 0x00 },
        fun t => t.b == 0x00 && t.f == 0x90 && t.pc == 0x0102 && t.cycles == 8),
      ({ start 0x0100 [0xCB, 0x10] with b := 0xFF, f := 0x00 },
        fun t => t.b == 0xFE && t.f == 0x10 && t.pc == 0x0102 && t.cycles == 8),
      ({ start 0x0100 [0xCB, 0x18] with b := 0x80, f := 0x00 },
        fun t => t.b == 0x40 && t.f == 0x00 && t.pc == 0x0102 && t.cycles == 8),
      ({ start 0x0100 [0xCB, 0x18] with b := 0xFF, f := 0x00 },
        fun t => t.b == 0x7F && t.f == 0x10 && t.pc == 0x0102 && t.cycles == 8),
      ({ start 0x0100 [0xCB, 0x20] with b := 0x80, f := 0x00 },
        fun t => t.b == 0x00 && t.f == 0x90 && t.pc == 0x0102 && t.cycles == 8),
      ({ start 0x0100 [0xCB, 0x20] with b := 0xFF, f := 0x00 },
        fun t => t.b == 0xFE && t.f == 0x10 && t.pc == 0x0102 && t.cycles == 8)] = true := by
  decide +kernel

/-- T22 SRA B, T24 SRA B, T26 SWAP B, T28 SWAP B, T30 SRL B, T32 SRL B. -/
theorem test_rotate_cb_vectors_2 :
    stepsMeet [({ start 0x0100 [0xCB, 0x28] with b := 0x80, f := 0x00 },
        fun t => t.b == 0xC0 && t.f == 0x00 && t.pc == 0x0102 && t.cycles == 8),
      ({ start 0x0100 [0xCB, 0x28] with b := 0xFF, f := 0x00 },
        fun t => t.b == 0xFF && t.f == 0x10 && t.pc == 0x0102 && t.cycles == 8),
      ({ start 0x0100 [0xCB, 0x30] with b := 0x80, f := 0x00 },
        fun t => t.b == 0x08 && t.f == 0x00 && t.pc == 0x0102 && t.cycles == 8),
      ({ start 0x0100 [0xCB, 0x30] with b := 0xFF, f := 0x00 },
        fun t => t.b == 0xFF && t.f == 0x00 && t.pc == 0x0102 && t.cycles == 8),
      ({ start 0x0100 [0xCB, 0x38] with b := 0x80, f := 0x00 },
        fun t => t.b == 0x40 && t.f == 0x00 && t.pc == 0x0102 && t.cycles == 8),
      ({ start 0x0100 [0xCB, 0x38] with b := 0xFF, f := 0x00 },
        fun t => t.b == 0x7F && t.f == 0x10 && t.pc == 0x0102 && t.cycles == 8)] = true := by
  decide +kernel

/-- U1 BIT 0,B, U2 BIT 7,B, U3 BIT 7,(HL), U4 RES 0,(HL), U5 SET 7,(HL), U6 SET 0,A, U7 SWAP (HL), U8 SET 2,E. -/
theorem test_bit_ops_vectors :
    stepsMeet [({ start 0x0100 [0xCB, 0x40] with b := 0x01, f := 0x10 },
        fun t => t.b == 0x01 && t.f == 0x30 && t.pc == 0x0102 && t.cycles == 8),
      ({ start 0x0100 [0xCB, 0x78] with b := 0x7F, f := 0x00 },
        fun t => t.b == 0x7F && t.f == 0xA0 && t.pc == 0x0102 && t.cycles == 8),
      ({ start 0x0100 [0xCB, 0x7E] with h := 0xFF, l := 0x41, f := 0x00 },
        fun t => t.f == 0x20 && t.pc == 0x0102 && t.cycles == 12),
      (busWrite { start 0x0100 [0xCB, 0x86] with h := 0xC0, l := 0x00, f := 0xF0 } 0xC000 0xFF,
        fun t => busRead t 0xC000 == 0xFE && t.f == 0xF0 && t.pc == 0x0102 && t.cycles == 16),
      (busWrite { start 0x0100 [0xCB, 0xFE] with h := 0xC0, l := 0x00, f := 0x00 } 0xC000 0x00,
        fun t => busRead t 0xC000 == 0x80 && t.f == 0x00 && t.pc == 0x0102 && t.cycles == 16),
      ({ start 0x0100 [0xCB, 0xC7] with a := 0x01 },
        fun t => t.a == 0x01 && t.pc == 0x0102 && t.cycles == 8),
      (busWrite { start 0x0100 [0xCB, 0x36] with h := 0xC0, l := 0x00, f := 0xF0 } 0xC000 0xA5,
        fun t => busRead t 0xC000 == 0x5A && t.f == 0x00 && t.pc == 0x0102 && t.cycles == 16),
      ({ start 0x0100 [0xCB, 0xD3] with e := 0x00 },
        fun t => t.e == 0x04 && t.pc == 0x0102 && t.cycles == 8)] = true := by
  decide +kernel

/-- J1 JP a16, J2 JP NZ,a16, J3 JP C,a16, J4 JP NC,a16, J5 JP HL, J6 JR e8, J7 JR e8, J9 JR Z,e8, J10 JR C,e8, J11 JR
NC,e8. -/
theorem test_control_vectors_1 :
    stepsMeet [(start 0x0100 [0xC3, 0x00, 0x00],
        fun t => t.pc == 0x0000 && t.cycles == 16),
      ({ start 0x0100 [0xC2, 0x34, 0x12] with f := 0x80 },
        fun t => t.pc == 0x0103 && t.cycles == 12),
      ({ start 0x0100 [0xDA, 0x34, 0x12] with f := 0x10 },
        fun t => t.pc == 0x1234 && t.cycles == 16),
      ({ start 0x0100 [0xD2, 0x34, 0x12] with f := 0x10 },
        fun t => t.pc == 0x0103 && t.cycles == 12),
      ({ start 0x0100 [0xE9] with h := 0x00, l := 0x00 },
        fun t => t.pc == 0x0000 && t.cycles == 4),
      (start 0x0100 [0x18, 0x7F],
        fun t => t.pc == 0x0181 && t.cycles == 12),
      (start 0x0100 [0x18, 0x80],
        fun t => t.pc == 0x0082 && t.cycles == 12),
      ({ start 0x0100 [0x28, 0x10] with f := 0x80 },
        fun t => t.pc == 0x0112 && t.cycles == 12),
      ({ start 0x0100 [0x38, 0x10] with f := 0x00 },
        fun t => t.pc == 0x0102 && t.cycles == 8),
      ({ start 0x0100 [0x30, 0xFE] with f := 0x00 },
        fun t => t.pc == 0x0100 && t.cycles == 12)] = true := by
  decide +kernel

/-- J12 CALL a16, J13 CALL a16, J14 CALL NZ,a16, J15 CALL C,a16, J16 RET, J17 RET Z, J18 RET NZ, J19 RETI, J20 RST
0x00, J21 RST 0x38. -/
theorem test_control_vectors_2 :
    stepsMeet [({ start 0x0100 [0xCD, 0x00, 0x20] with sp := 0xD000 },
        fun t => t.sp == 0xCFFE && busRead t 0xCFFE == 0x03 && busRead t 0xCFFF == 0x01 && t.pc == 0x2000
        && t.cycles == 24),
      ({ start 0x0100 [0xCD, 0x00, 0x20] with sp := 0x0000 },
        fun t => t.sp == 0xFFFE && busRead t 0xFFFE == 0x03 && busRead t 0xFFFF == 0x01 && t.pc == 0x2000
        && t.cycles == 24),
      ({ start 0x0100 [0xC4, 0x00, 0x20] with sp := 0xD000, f := 0x80 },
        fun t => t.sp == 0xD000 && t.pc == 0x0103 && t.cycles == 12),
      ({ start 0x0100 [0xDC, 0x00, 0x20] with sp := 0xD000, f := 0x10 },
        fun t => t.sp == 0xCFFE && busRead t 0xCFFE == 0x03 && busRead t 0xCFFF == 0x01 && t.pc == 0x2000
        && t.cycles == 24),
      (busWrite { start 0x0100 [0xC9] with sp := 0xFFFE, ie := 0x56 } 0xFFFE 0x78,
        fun t => t.sp == 0x0000 && t.pc == 0x5678 && t.cycles == 16),
      ((busWrite (busWrite { start 0x0100 [0xC8] with sp := 0xD000, f := 0x80 } 0xD000 0x22) 0xD001 0x11),
        fun t => t.sp == 0xD002 && t.pc == 0x1122 && t.cycles == 20),
      ((busWrite (busWrite { start 0x0100 [0xC0] with sp := 0xD000, f := 0x80 } 0xD000 0x22) 0xD001 0x11),
        fun t => t.sp == 0xD000 && t.pc == 0x0101 && t.cycles == 8),
      ((busWrite (busWrite { start 0x0100 [0xD9] with sp := 0xD000, ime := false } 0xD000 0x22) 0xD001 0x11),
        fun t => t.sp == 0xD002 && t.ime == true && t.pc == 0x1122 && t.cycles == 16),
      ({ start 0x0100 [0xC7] with sp := 0xD000 },
        fun t => t.sp == 0xCFFE && busRead t 0xCFFE == 0x01 && busRead t 0xCFFF == 0x01 && t.pc == 0x0000
        && t.cycles == 16),
      ({ start 0x0100 [0xFF] with sp := 0xD000 },
        fun t => t.sp == 0xCFFE && busRead t 0xCFFE == 0x01 && busRead t 0xCFFF == 0x01 && t.pc == 0x0038
        && t.cycles == 16)] = true := by
  decide +kernel

/-- M1 NOP, M2 HALT, M3 STOP, M4 STOP, M5 DI, M6 EI, M7 EI, M8 illegal, M9 illegal, M10 illegal. -/
theorem test_misc_vectors :
    stepsMeet [({ start 0x0100 [0x00] with f := 0xF0 },
        fun t => t.f == 0xF0 && t.pc == 0x0101 && t.cycles == 4),
      (start 0x0100 [0x76],
        fun t => t.halted == true && t.pc == 0x0101 && t.cycles == 4),
      (start 0x0100 [0x10, 0xDD],
        fun t => t.fatal == none && t.pc == 0x0102 && t.cycles == 4),
      (startIn { Config.initial with stopMode := .fatal } 0x0100 [0x10, 0x00],
        fun t => t.fatal == some ⟨0x10, 0x0100⟩ && t.pc == 0x0100),
      ({ start 0x0100 [0xF3] with ime := true },
        fun t => t.ime == false && t.pc == 0x0101 && t.cycles == 4),
      ({ start 0x0100 [0xFB] with ime := false },
        fun t => t.ime == true && t.pc == 0x0101 && t.cycles == 4),
      ({ startIn { Config.initial with eiDelay := true } 0x0100 [0xFB] with ime := false },
        fun t => t.ime == false && t.pc == 0x0101 && t.cycles == 4),
      ({ start 0x0100 [0xD3] with a := 0x12 },
        fun t => t.fatal == some ⟨0xD3, 0x0100⟩ && t.a == 0x12 && t.pc == 0x0100),
      ((busWrite (start 0xC000 []) 0xC000 0xFD),
        fun t => t.fatal == some ⟨0xFD, 0xC000⟩ && t.pc == 0xC000),
      (busWrite { start 0x0100 [0xE4] with ime := true, ie := 0x01, sp := 0xD000 } 0xFF0F 0x01,
        fun t => t.fatal == none && t.ifReg == 0x00 && t.ime == false && t.pc == 0x0040 && t.cycles == 20)] = true := by
  decide +kernel

/-! Interrupts, HALT and EI: single steps of the runs V1 to V4. -/

def interruptStart (enabled flags : Byte) : State :=
  { busWrite { start 0x0100 [0x00] with sp := 0xD000, ime := true } 0xFF0F flags with ie := enabled }

def entered (vector : Word) (flags : Byte) (t : State) : Bool :=
  t.pc == vector && t.ifReg == flags && !t.ime && t.sp == 0xCFFE && t.cycles == 20
    && busRead t 0xCFFE == 0x00 && busRead t 0xCFFF == 0x01

/-- V3, all seven rows. -/
theorem test_interrupt_priority_and_entry :
    stepsMeet [(interruptStart 0x1F 0x1F, entered 0x0040 0x1E), (interruptStart 0x1E 0x1F, entered 0x0048 0x1D),
      (interruptStart 0x14 0x1C, entered 0x0050 0x18), (interruptStart 0x10 0xFF, entered 0x0060 0xEF),
      (interruptStart 0xFF 0xE8, entered 0x0058 0xE0),
      (interruptStart 0x1F 0xE0, fun t => t.pc == 0x0101 && t.ifReg == 0xE0 && t.ime && t.sp == 0xD000 && t.cycles == 4),
      (interruptStart 0x00 0x1F, fun t => t.pc == 0x0101 && t.ifReg == 0x1F && t.ime && t.cycles == 4)] = true := by
  decide +kernel

/-- V1 step 2: the halt ends, nothing is dispatched, the instruction after HALT runs. -/
theorem test_halt_ends_without_dispatch :
    stepsMeet [(busWrite { start 0x0151 [0x3C] with halted := true, a := 0x10, ie := 0x04, sp := 0xD000 } 0xFF0F 0x04,
      fun t => t.pc == 0x0152 && !t.halted && t.a == 0x11 && t.ifReg == 0x04 && t.sp == 0xD000)] = true := by
  decide +kernel

/-- V2 step 4: a halted idle step during which the timer overflows. -/
theorem test_halted_idle_step :
    stepsMeet [({ start 0x0151 [0x3C] with
        halted := true
        ime := true
        ie := 0x04
        timaSub := 12
        io := [(offTIMA, 0xFF), (offTMA, 0xF0), (offTAC, 0x05)] },
      fun t => t.pc == 0x0151 && t.halted && t.cycles == 4 && t.ioByte offTIMA == 0xF0 && t.timaSub == 0
        && t.ifReg == 0x04)] = true := by
  decide +kernel

/-- V4, the second steps under EI_DELAY = 1 of `EI; INC A`, `EI; DI` and `EI; EI`. -/
theorem test_ei_delay :
    (stepsMeet [({ startIn { Config.initial with eiDelay := true } 0x0101 [0x3C] with eiPending := true },
        fun t => t.ime && !t.eiPending),
      ({ startIn { Config.initial with eiDelay := true } 0x0101 [0xF3] with eiPending := true },
        fun t => !t.ime && !t.eiPending),
      ({ startIn { Config.initial with eiDelay := true } 0x0101 [0xFB] with eiPending := true },
        fun t => t.ime)]) = true := by
  decide +kernel

/-! Timer, joypad, OAM copy, locks, display. -/

/-- R379. -/
theorem test_timer_example :
    (let t := timerAdvance 24 { State.reset with
        divSub := 250, timaSub := 10, io := [(offTIMA, 0xFE), (offTMA, 0x80), (offTAC, 0x05)] }
    t.divSub == 18 && t.ioByte offDIV == 0x01 && t.ioByte offTIMA == 0x80 && t.ifReg == 0x04 && t.timaSub == 2) = true := by
  decide +kernel

def joypadReads (select : Byte) (p : Buttons) : Byte := busRead (busWrite { State.reset with pressed := p } 0xFF00 select) 0xFF00

/-- V15. -/
theorem test_joypad_reads :
    joypadReads 0x30 { noButtons with a := true, right := true } = 0xFF
      ∧ joypadReads 0x20 { noButtons with a := true, right := true } = 0xEE
      ∧ joypadReads 0x10 { noButtons with a := true, right := true } = 0xDE
      ∧ joypadReads 0x00 { noButtons with a := true, right := true } = 0xCE
      ∧ joypadReads 0x00 { noButtons with a := true, left := true } = 0xCC
      ∧ joypadReads 0x10 { noButtons with start := true, select := true, b := true, a := true } = 0xD0
      ∧ joypadReads 0xFF { noButtons with down := true } = 0xFF := by
  decide +kernel

/-- V14, source page 0xFF with the display off, and source page 0x80 with both ends locked. -/
theorem test_oam_copy :
    (let s := { State.reset with io := [(offSCY, 0x37)], hram := [(0, 0x5C)] }
    let t := busWrite s 0xFF46 0xFF
    let u := busWrite { State.reset with io := [(offLCDC, 0x91)], mode := .pixelTransfer } 0xFF46 0x80
    Memory.read t.oam 0x42 == 0x37 && Memory.read t.oam 0x44 == 0x00 && Memory.read t.oam 0x46 == 0xFF
      && Memory.read t.oam 0x80 == 0x5C && Memory.read t.oam 0x9F == 0x00
      && Memory.read u.oam 0 == 0xFF && Memory.read u.oam 159 == 0xFF) = true := by
  decide +kernel

def inMode (m : PpuMode) : State :=
  { resetPostBoot Config.initial .noMbc with mode := m, vram := [(0, 0x12)], oam := [(0, 0x34)] }

/-- V16, the rows of line 0: what 0x8000, 0xFE00 and STAT read as in each mode. -/
theorem test_locks_and_stat :
    (busRead (inMode .oamScan) 0x8000 = 0x12 ∧ busRead (inMode .oamScan) 0xFE00 = 0xFF
        ∧ busRead (inMode .oamScan) 0xFF41 = 0x86)
      ∧ (busRead (inMode .pixelTransfer) 0x8000 = 0xFF ∧ busRead (inMode .pixelTransfer) 0xFE00 = 0xFF
        ∧ busRead (inMode .pixelTransfer) 0xFF41 = 0x87)
      ∧ (busRead (inMode .hBlank) 0x8000 = 0x12 ∧ busRead (inMode .hBlank) 0xFE00 = 0x34
        ∧ busRead (inMode .hBlank) 0xFF41 = 0x84) := by
  decide +kernel

/-- V16: the display switched off in the middle of line 2 and on again at 3000. -/
theorem test_display_off_and_on :
    (let s := { resetPostBoot Config.initial .noMbc with
        now := 1000, mode := .pixelTransfer, entries := [⟨1164, .ppu⟩, panicSentinel] }
    let off := busWrite s 0xFF40 0x11
    let on := busWrite { off with now := 3000 } 0xFF40 0x91
    off.ly == 0 && busRead off 0xFF41 == 0x84 && off.entries == [panicSentinel] && on.mode == .oamScan && on.ly == 0
      && on.entries == [⟨3080, .ppu⟩, panicSentinel]) = true := by
  decide +kernel

/-- R421: the last row of the window's map is read from the map, at its last address; the row after it is a free value. -/
theorem test_map_rows :
    (let s := { State.reset with vram := [(0x1FFF, 0x5A)], now := 7 }
    s.mapTile 0x9C00 255 255 = 0x5A ∧ s.mapTile 0x9C00 255 256 = Config.freeTile 7 255 256) := by
  exact ⟨by decide, rfl⟩

/-- R435, with SHADE[k] = k. -/
theorem test_render_example :
    (let s := { State.reset with
        io := [(offLCDC, 0x93), (offBGP, 0xE4), (offOBP0, 0x1B)]
        vram := [(0x0010, 0x3C), (0x0011, 0x7E), (0x0020, 0xFF), (0x1800, 0x01)]
        oam := [(0, 16), (1, 12), (2, 2), (3, 0x80)]
        cfg := { Config.initial with shade := ⟨0, 1, 2, 3⟩ } }
    let t := renderScanline s
    (t.fb.head?.map (·.take 13)) == some [0, 2, 3, 3, 3, 3, 2, 2, 2, 2, 2, 2, 0] && t.wlc == 0) = true := by
  decide +kernel

/-! Scheduler and cartridges. -/

/-- V11, after the seventh push. -/
theorem test_scheduler_order :
    ([(500, EventKind.ppu), (100, .timers), (500, .timers), (100, .ppu), (0, .apu), (2 ^ 64 - 2, .none), (500, .ppu)].foldl
        (fun s p => schedPush s p.1 p.2) State.reset).entries =
      [⟨0, .apu⟩, ⟨100, .timers⟩, ⟨100, .ppu⟩, ⟨500, .ppu⟩, ⟨500, .timers⟩, ⟨500, .ppu⟩, ⟨2 ^ 64 - 2, .none⟩,
        panicSentinel] := by
  decide +kernel

/-- A cartridge whose image holds the bank number at the start of each of eight banks, header codes 0x02 for both sizes. -/
def banked (cart : Cartridge) : State :=
  { resetPostBoot { Config.initial with
      rom := [(0x148, 0x02), (0x149, 0x02), (0x4000, 1), (0x8000, 2), (0xC000, 3), (0x10000, 4), (0x14000, 5),
        (0x18000, 6), (0x1C000, 7)]
      romLength := 0x20000 } cart with cart := cart, cartRam := [(0, 0x5A)] }

/-- V9, the rows of the 128 KiB image. -/
theorem test_mbc1_banks :
    (let bank (v : Byte) : Byte := busRead (busWrite (banked (.mbc1 mbc1Reset)) 0x2000 v) 0x4000
    bank 0x00 == 1 && bank 0x01 == 1 && bank 0x02 == 2 && bank 0x1F == 7 && bank 0x20 == 1
      && busRead (busWrite (busWrite (banked (.mbc1 mbc1Reset)) 0x2000 0x05) 0x4000 0x01) 0x4000 == 5) = true := by
  decide +kernel

/-- V8's table of gate values. -/
theorem test_ram_gates :
    (let gate (cart : Cartridge) (v : Byte) : Byte := busRead (busWrite (banked cart) 0x0000 v) 0xA000
    gate (.mbc1 mbc1Reset) 0x0A == 0x5A && gate (.mbc1 mbc1Reset) 0x1A == 0xFF && gate (.mbc1 mbc1Reset) 0x00 == 0xFF
      && gate (.mbc3 mbc3Reset) 0x1A == 0x5A && gate (.mbc3 mbc3Reset) 0x0B == 0xFF
      && gate (.mbc5 mbc5Reset) 0xFA == 0x5A && gate (.mbc5 mbc5Reset) 0x00 == 0xFF) = true := by
  decide +kernel

/-- V10: MBC2's two registers and its half-byte RAM, MBC3's forced 1, MBC5's ninth bit. -/
theorem test_other_variants :
    (let two := banked (.mbc2 mbc2Reset)
    let open2 := busWrite (busWrite two 0x0000 0x0A) 0xA000 0xAB
    let three := banked (.mbc3 mbc3Reset)
    let five := busWrite (busWrite (banked (.mbc5 mbc5Reset)) 0x2000 0xFF) 0x3000 0x01
    busRead (busWrite two 0x0100 0x05) 0x4000 == 5 && busRead (busWrite two 0x2100 0x00) 0x4000 == 1
      && busRead open2 0xA000 == 0xFB && busRead open2 0xA200 == 0xFB && busRead open2 0xBE00 == 0xFB
      && busRead (busWrite three 0x2000 0x80) 0x4000 == 1
      && decide (five.cart = .mbc5 { mbc5Reset with romBank := 0x1FF })
      && busRead (busWrite (banked (.mbc5 mbc5Reset)) 0x2000 0x00) 0x4000 == 0) = true := by
  decide +kernel

/-! The host's two functions. -/

/-- Table words, numbered as spec/opcode_table.json numbers them: INC A, LD BC,d16, SWAP A with its prefix in bits 7 to
0. -/
theorem test_table_words :
    decodeTableWord 8 0x3C = some .inc_a ∧ decodeTableWord 24 0xBC9A01 = some (.ld_bc_d16 0xBC9A)
      ∧ decodeTableWord 16 0x37CB = some .swap_a := by
  decide +kernel

theorem test_fetch_word_runs_first :
    stepsMeet [(State.reset.withFetchWord 8 0x3C, fun t => t.a == 1),
      (State.reset.withFetchWord 24 0xBC9A01, fun t => t.bc == 0xBC9A),
      (State.reset.withFetchWord 16 0xC7CB, fun t => t.a == 1 && t.cycles == 8)] = true := by
  decide +kernel

/-! Witnesses: for every obligation with hypotheses, a state and operands that meet them, clause by clause. -/

/-- PostBoot, forty cycles on: the display in OAM-scan with its entry ahead. -/
def live : State := { resetPostBoot Config.initial .noMbc with now := 40 }

theorem live_canonical : MemoriesCanonical live :=
  ⟨by decide, by decide, by decide, by decide, by decide, by decide, by decide⟩

theorem quiet_canonical : MemoriesCanonical (start 0x0100 []) :=
  ⟨by decide, by decide, by decide, by decide, by decide, by decide, by decide⟩

theorem live_consistent : DisplayConsistent live where
  beforePanic := by decide
  noModelFault := rfl
  off h := absurd h (by decide)
  on _ := ⟨⟨80, rfl, by decide, by decide, by decide⟩, by decide, by decide⟩

theorem initial_legal : Config.Legal Config.initial :=
  ⟨by decide, by decide, by decide, by decide, by decide, by decide, by decide⟩

theorem live_invariant : Invariant live where
  legal := initial_legal
  flags := by unfold FlagsClean; decide
  memories := live_canonical
  masks := ⟨by decide, by decide⟩
  subCounters := ⟨by decide, by decide⟩
  banks := trivial
  eiPending := fun _ => rfl
  frame := ⟨List.length_replicate, fun row h => by rw [List.eq_of_mem_replicate h]; exact List.length_replicate,
    List.length_replicate⟩
  display := live_consistent

theorem live_steps : ∃ t, step live = .next t ∧ t.fatal = none := by
  obtain ⟨t, e, h⟩ := next_of_meets (r := step live) (ok := fun t => t.fatal.isNone) (by decide +kernel)
  exact ⟨t, e, by simpa using h⟩

theorem witness_MiscResults : ∃ s u : State, s.cfg.stopMode = .nop2 ∧ u.cfg.stopMode = .fatal :=
  ⟨State.reset, { State.reset with cfg := { Config.initial with stopMode := .fatal } }, rfl, rfl⟩

theorem witness_DecimalAdjust : ∃ m n : Nat, m < 100 ∧ n < 100 := ⟨99, 0, by decide, by decide⟩

/-- Running, and halted with a source pending and enabled but `ime` clear. -/
theorem witness_StepRunsDecoded : [start 0x0100 [0x3C], { start 0x0100 [0x3C] with
      halted := true, ie := 0x04, io := [(offIF, 0x04)] }].all fun s =>
    let pending := s.ie &&& Memory.read s.io 0x0F &&& 0x1F
    let woken := if pending = 0 then s else { s with halted := false }
    decide (s.fatal = none ∧ s.modelFault = none ∧ (s.ime = false ∨ pending = 0) ∧ woken.halted = false)
      && match decode [busRead s s.pc, busRead s (s.pc + 1), busRead s (s.pc + 2)] with
        | .ok (i, rest) => i == .inc_a && rest == [0, 0]
        | .error _ => false := by
  decide +kernel

/-- The lowest and the highest source. -/
theorem witness_InterruptDispatch : ∀ i ∈ [0, 4], ∃ s : State, s.fatal = none ∧ s.modelFault = none ∧ s.ime = true ∧ i < 5
    ∧ (s.ie &&& Memory.read s.io 0x0F).getLsbD i = true
    ∧ (∀ j, j < i → (s.ie &&& Memory.read s.io 0x0F).getLsbD j = false) := by
  intro i hi
  rcases (by simpa using hi : i = 0 ∨ i = 4) with rfl | rfl
  · exact ⟨interruptStart 0x1F 0x1F, by decide +kernel⟩
  · exact ⟨interruptStart 0x10 0xFF, by decide +kernel⟩

theorem witness_HaltSteps :
    (∃ s : State, s.fatal = none ∧ s.modelFault = none ∧ s.halted = true ∧ s.ie &&& s.ifReg &&& 0x1F = 0)
      ∧ (∃ s t : State, s.fatal = none ∧ s.modelFault = none ∧ s.ime = false ∧ s.ie &&& s.ifReg &&& 0x1F ≠ 0
        ∧ exec (decodeBytes (busRead s s.pc) (busRead s (s.pc + 1)) (busRead s (s.pc + 2))) { s with halted := false } =
          .next t ∧ t.fatal = none ∧ s.cfg.eiDelay = false) := by
  refine ⟨⟨{ start 0x0100 [] with halted := true }, rfl, rfl, rfl, by decide +kernel⟩, ?_⟩
  obtain ⟨s, hs⟩ : ∃ s, s = { interruptStart 0x04 0x04 with ime := false, halted := true } := ⟨_, rfl⟩
  obtain ⟨t, e, h⟩ := next_of_meets (ok := fun t => t.fatal.isNone) (r := exec
    (decodeBytes (busRead s s.pc) (busRead s (s.pc + 1)) (busRead s (s.pc + 2))) { s with halted := false })
    (by rw [hs]; decide +kernel)
  exact ⟨s, t, by rw [hs]; rfl, by rw [hs]; rfl, by rw [hs], by rw [hs]; decide +kernel, e, by simpa using h,
        by rw [hs]; rfl⟩

theorem witness_FatalStep :
    (∃ (s : State) (b : Byte), s.fatal = none ∧ s.modelFault = none
        ∧ (s.ime = false ∨ s.ie &&& Memory.read s.io 0x0F &&& 0x1F = 0)
        ∧ (s.halted = false ∨ s.ie &&& Memory.read s.io 0x0F &&& 0x1F ≠ 0)
        ∧ busRead s s.pc = b ∧ b ∈ [(0xD3 : Byte), 0xDB, 0xDD, 0xE3, 0xE4, 0xEB, 0xEC, 0xED, 0xF4, 0xFC, 0xFD])
      ∧ (∃ (s : State) (r : FatalRecord), s.fatal = some r) :=
  ⟨⟨start 0x0100 [0xFD], 0xFD, by decide +kernel⟩, ⟨{ State.reset with fatal := some ⟨0xD3, 0⟩ }, _, rfl⟩⟩

theorem witness_ControlBitsOwners : ∃ (i : Instr) (s t : State), exec i s = .next t := ⟨.halt, State.reset, _, rfl⟩

/-- A step that completes and one that raised Fatal; nothing due with the display off, and with it on up to one cycle
before its
entry's time. -/
theorem witness_StepAdvancesTime :
    (∃ s t : State, step s = .next t ∧ t.fatal = none) ∧ (∃ s t : State, step s = .next t ∧ t.fatal ≠ none)
      ∧ [{ State.reset with cycles := 24 }, { live with cycles := 39 }].all fun t => decide (
        t.modelFault = none ∧ t.now + t.cycles < panicTime ∧ t.entries.length < 32
          ∧ ∀ ev ∈ t.entries, t.now + t.cycles < ev.time) := by
  refine ⟨⟨live, live_steps⟩, ?_, by decide +kernel⟩
  obtain ⟨t, e, h⟩ := next_of_meets (r := step (start 0x0100 [0xD3])) (ok := fun t => t.fatal.isSome) (by decide +kernel)
  exact ⟨_, t, e, by intro hn; rw [hn] at h; cases h⟩

/-- R346: the entry at 80 is handled in the step that ends at 80, before the key event, and not in one that ends at 79. -/
theorem test_due_events :
    meets (finishStep { live with cycles := 39 }) (fun t => t.mode == .oamScan && t.divSub == 243) = true
      ∧ meets (finishStep { live with cycles := 40, keyInput := [some ⟨.a, true⟩] }) (fun t => t.mode == .pixelTransfer
        && t.divSub == 244 && t.entries == [⟨252, .ppu⟩, panicSentinel] && t.pressed.a && t.ifReg == 0xF1) = true := by
  decide +kernel

theorem witness_StepKeepsParameters : ∃ s t : State, step s = .next t ∧ s.bootActive = false :=
  ⟨live, live_steps.choose, live_steps.choose_spec.1, rfl⟩

/-- At both ends of the range of SP. -/
theorem witness_StackRoundTrip : ∀ sp ∈ [(0xC002 : Word), 0xE000], ∃ s t u t' u' t'' u'' v : State, MemoriesCanonical s
    ∧ 0xC002 ≤ s.sp.toNat ∧ s.sp.toNat ≤ 0xE000 ∧ exec (.ofPush .bc) s = .next t ∧ exec (.ofPop .af) t = .next u
    ∧ exec (.call_a16 0x2000) s = .next t' ∧ exec .ret t' = .next u' ∧ exec (.ofRst .n7) s = .next t''
    ∧ exec .ret t'' = .next u'' ∧ exec .reti (interruptEntry 2 s) = .next v := by
  intro sp h
  refine ⟨{ start 0x0100 [] with sp := sp }, _, _, _, _, _, _, _,
    ⟨quiet_canonical.ramNonempty, quiet_canonical.wram, quiet_canonical.hram, quiet_canonical.io, quiet_canonical.vram,
      quiet_canonical.oam, quiet_canonical.cartRam⟩, ?_, ?_, rfl, rfl, rfl, rfl, rfl, rfl, rfl⟩
  all_goals
    rcases (by simpa using h : sp = 0xC002 ∨ sp = 0xE000) with rfl | rfl <;> decide

/-- Each region at both ends, the display off, and on in a mode that locks nothing; the arrays are in the form the clause on
`Memory.write` asks. -/
theorem witness_StoreReadsBack : (∀ s ∈ [start 0x0100 [], inMode .hBlank],
      (bitOf (Memory.read s.io 0x40) 7 = false ∨ s.mode ≠ .pixelTransfer)
        ∧ (bitOf (Memory.read s.io 0x40) 7 = false ∨ (s.mode ≠ .oamScan ∧ s.mode ≠ .pixelTransfer)))
    ∧ MemoriesCanonical (start 0x0100 [])
    ∧ [(0xC000 : Word), 0xFDFF].all (fun a => decide (0xC000 ≤ a.toNat ∧ a.toNat ≤ 0xFDFF))
    ∧ [(0xC000 : Word), 0xDDFF].all (fun a => decide (0xC000 ≤ a.toNat ∧ a.toNat ≤ 0xDDFF))
    ∧ [(0xE000 : Word), 0xFDFF].all (fun a => decide (0xE000 ≤ a.toNat ∧ a.toNat ≤ 0xFDFF))
    ∧ [(0xFF80 : Word), 0xFFFE].all (fun a => decide (0xFF80 ≤ a.toNat ∧ a.toNat ≤ 0xFFFE))
    ∧ [(0x8000 : Word), 0x9FFF].all (fun a => decide (0x8000 ≤ a.toNat ∧ a.toNat ≤ 0x9FFF))
    ∧ [(0xFE00 : Word), 0xFE9F].all (fun a => decide (0xFE00 ≤ a.toNat ∧ a.toNat ≤ 0xFE9F)) :=
  ⟨by decide +kernel, quiet_canonical, by decide +kernel⟩

theorem witness_StorageStoreFrame : ∃ s : State,
    [((0x8000 : Word), (0xFF00 : Word)), (0xA000, 0xA001), (0xBFFF, 0xC000), (0xC000, 0xE001), (0xFEFF, 0xFE00),
        (0xFF80, 0xFFFF), (0xFFFF, 0x0000)].all fun p => decide (
      ((0x8000 ≤ p.1.toNat ∧ p.1.toNat < 0xFF00) ∨ 0xFF80 ≤ p.1.toNat) ∧ p.1 ≠ p.2
        ∧ ¬(0xC000 ≤ p.1.toNat ∧ p.1.toNat ≤ 0xFDFF ∧ 0xC000 ≤ p.2.toNat ∧ p.2.toNat ≤ 0xFDFF
          ∧ p.1.toNat % 0x2000 = p.2.toNat % 0x2000)
        ∧ ¬(0xA000 ≤ p.1.toNat ∧ p.1.toNat ≤ 0xBFFF ∧ 0xA000 ≤ p.2.toNat ∧ p.2.toNat ≤ 0xBFFF
          ∧ cartRamTarget s.cfg s.cart p.1.toNat = cartRamTarget s.cfg s.cart p.2.toNat)) :=
  ⟨start 0x0100 [], by decide +kernel⟩

/-- The clauses on the record: both ends of each region (those of `witness_StoreReadsBack` apart). -/
theorem witness_StorageStoreFrame_record :
    ([(0xA000 : Word), 0xBFFF].all fun a => decide (0xA000 ≤ a.toNat ∧ a.toNat ≤ 0xBFFF))
      ∧ ([(0xFEA0 : Word), 0xFEFF].all fun a => decide (0xFEA0 ≤ a.toNat ∧ a.toNat ≤ 0xFEFF)) := by
  decide +kernel

theorem witness_IoStoreFrame :
    [(0xFF00 : Word), 0xFF40, 0xFF45, 0xFF46, 0xFF50, 0xFF7F].all fun a => [(0x0100 : Word), 0xFEFF, 0xFFFF].all fun b =>
      decide (0xFF00 ≤ a.toNat ∧ a.toNat ≤ 0xFF7F ∧ a ≠ b ∧ (a = 0xFF45 → b ≠ 0xFF41)
        ∧ (a = 0xFF46 → ¬(0xFE00 ≤ b.toNat ∧ b.toNat ≤ 0xFE9F)) ∧ (a = 0xFF50 → 0x0100 ≤ b.toNat)
        ∧ (a = 0xFF40 → b ≠ 0xFF41 ∧ b ≠ 0xFF44 ∧ ¬(0x8000 ≤ b.toNat ∧ b.toNat ≤ 0x9FFF)
          ∧ ¬(0xFE00 ≤ b.toNat ∧ b.toNat ≤ 0xFE9F))) := by
  decide +kernel

theorem witness_BankStoreFrame : [(0x3FFF : Word), 0x8000, 0x9FFF, 0xC000].all fun b =>
    decide ((0x7FFF : Word).toNat ≤ 0x7FFF ∧ ¬(0x4000 ≤ b.toNat ∧ b.toNat ≤ 0x7FFF)
      ∧ ¬(0xA000 ≤ b.toNat ∧ b.toNat ≤ 0xBFFF)) := by
  decide +kernel

/-- Each clause at both ends of its range. -/
theorem witness_LockedAndUnusable :
    (∃ s : State, bitOf (Memory.read s.io 0x40) 7 = true ∧ s.mode = .pixelTransfer
        ∧ [(0x8000 : Word), 0x9FFF].all (fun a => decide (0x8000 ≤ a.toNat ∧ a.toNat ≤ 0x9FFF)))
      ∧ (∃ s : State, bitOf (Memory.read s.io 0x40) 7 = true ∧ s.mode = .oamScan
        ∧ [(0xFE00 : Word), 0xFE9F].all (fun a => decide (0xFE00 ≤ a.toNat ∧ a.toNat ≤ 0xFE9F)))
      ∧ [(0xFEA0 : Word), 0xFEFF].all (fun a => decide (0xFEA0 ≤ a.toNat ∧ a.toNat ≤ 0xFEFF)) :=
  ⟨⟨{ live with mode := .pixelTransfer }, by decide +kernel⟩, ⟨live, by decide +kernel⟩, by decide +kernel⟩

theorem witness_IoRegisterWrites : [(0xFF01 : Word), 0xFF0F, 0xFF7F].all fun a => decide (
    0xFF00 ≤ a.toNat ∧ a.toNat ≤ 0xFF7F ∧ a ∉ [(0xFF00 : Word), 0xFF04, 0xFF40, 0xFF41, 0xFF44, 0xFF46, 0xFF50]) := by
  decide +kernel

/-- Both ends of the range and the neighbours of STAT. -/
theorem witness_ComposedRegisterReads : [(0xFF01 : Word), 0xFF40, 0xFF42, 0xFF7F].all fun a => decide (
    0xFF00 ≤ a.toNat ∧ a.toNat ≤ 0xFF7F ∧ a ≠ 0xFF00 ∧ a ≠ 0xFF41) := by
  decide +kernel

theorem witness_OamCopyEffect : ∃ (s : State) (i : Nat), MemoriesCanonical s ∧ i < 160 :=
  ⟨live, 159, live_canonical, by decide⟩

theorem witness_DisplaySwitch :
    (∃ (s : State) (v : Byte), s.displayOn = true ∧ bitOf v 7 = false)
      ∧ (∃ (s : State) (v : Byte), s.displayOn = false ∧ bitOf v 7 = true)
      ∧ (∃ (s : State) (v : Byte), s.displayOn = bitOf v 7) :=
  ⟨⟨live, 0x11, by decide +kernel⟩, ⟨State.reset, 0x91, by decide +kernel⟩, ⟨live, 0x80, by decide +kernel⟩⟩

/-- The reads: under the overlay, NoMBC inside and past its image, the lower window, and the upper one at both ends. -/
theorem witness_BankSelectsWindow :
    ([(0x0000 : Word), 0x00FF].all fun a => decide (State.reset.bootActive = true ∧ a.toNat ≤ 0xFF))
      ∧ (let s := banked .noMbc
        s.cart = .noMbc ∧ s.bootActive = false ∧ (0x7FFF : Word).toNat < s.cfg.romLength)
      ∧ (let s := startIn { Config.initial with romLength := 0x200 } 0x0100 []
        s.cart = .noMbc ∧ s.bootActive = false ∧ ¬(0x0200 : Word).toNat < s.cfg.romLength)
      ∧ (let s := { State.reset with cart := .mbc3 mbc3Reset }
        s.bootActive = true ∧ s.cart ≠ .noMbc
          ∧ [(0x0100 : Word), 0x3FFF].all fun a => decide (0x100 ≤ a.toNat ∧ a.toNat ≤ 0x3FFF))
      ∧ ([(0x4000 : Word), 0x7FFF].all fun a => decide (0x4000 ≤ a.toNat ∧ a.toNat ≤ 0x7FFF))
      ∧ ∀ cart, (banked cart).cart = cart :=
  ⟨by decide +kernel, by decide +kernel, by decide +kernel, by decide +kernel, by decide +kernel, fun _ => rfl⟩

/-- The writes: both ends of every window of a register. -/
theorem witness_BankSelectsWindow_writes :
    ([(0x0000 : Word), 0x1FFF].all fun b => decide (b.toNat ≤ 0x1FFF))
      ∧ ([(0x2000 : Word), 0x3FFF].all fun b => decide (0x2000 ≤ b.toNat ∧ b.toNat ≤ 0x3FFF))
      ∧ ([(0x4000 : Word), 0x5FFF].all fun b => decide (0x4000 ≤ b.toNat ∧ b.toNat ≤ 0x5FFF))
      ∧ ([(0x6000 : Word), 0x7FFF].all fun b => decide (0x6000 ≤ b.toNat ∧ b.toNat ≤ 0x7FFF))
      ∧ ([(0x0000 : Word), 0x3EFF].all fun b => decide (b.toNat ≤ 0x3FFF ∧ b.toNat / 256 % 2 = 0))
      ∧ ([(0x0100 : Word), 0x3FFF].all fun b => decide (b.toNat ≤ 0x3FFF ∧ b.toNat / 256 % 2 = 1))
      ∧ ([(0x2000 : Word), 0x2FFF].all fun b => decide (0x2000 ≤ b.toNat ∧ b.toNat ≤ 0x2FFF))
      ∧ ([(0x3000 : Word), 0x3FFF].all fun b => decide (0x3000 ≤ b.toNat ∧ b.toNat ≤ 0x3FFF)) := by
  decide +kernel

/-- The banked cartridge with this value of MBC1_GATE_FULL_BYTE. -/
def gatedBy (full : Bool) (cart : Cartridge) : State :=
  { banked cart with cfg := { (banked cart).cfg with mbc1GateFullByte := full } }

/-- Each variant, at both ends of the window, of the gate's addresses and of the bank register's; MBC1 with RAM and
without, and
under both gates; a byte that opens each gate and one that does not. -/
theorem witness_CartRamGate :
    [(0xA000 : Word), 0xBFFF].all (fun a => decide (0xA000 ≤ a.toNat ∧ a.toNat ≤ 0xBFFF))
      ∧ [(0x4000 : Word), 0x5FFF].all (fun k => decide (0x4000 ≤ k.toNat ∧ k.toNat ≤ 0x5FFF))
      ∧ [(0x0000 : Word), 0x1FFF].all (fun g => decide (g.toNat ≤ 0x1FFF))
      ∧ [(0x0000 : Word), 0x3EFF].all (fun g => decide (g.toNat ≤ 0x3FFF ∧ g.toNat / 256 % 2 = 0))
      ∧ (∀ full cart, MemoriesCanonical (gatedBy full cart) ∧ (gatedBy full cart).cart = cart
        ∧ (gatedBy full cart).cfg.mbc1GateFullByte = full)
      ∧ ((0x1A : Byte).toNat % 16 = 0x0A ∧ (0x1A : Byte) ≠ 0x0A ∧ ¬(0xA0 : Byte).toNat % 16 = 0x0A)
      ∧ (let s := gatedBy true (.mbc1 mbc1Reset)
        0x149 < s.cfg.romLength ∧ (Memory.read s.cfg.rom 0x149).toNat = 2)
      ∧ (let s := { start 0x0100 [] with cart := .mbc1 mbc1Reset }
        MemoriesCanonical s ∧ 0x149 < s.cfg.romLength ∧ (Memory.read s.cfg.rom 0x149).toNat = 0) := by
  have none : Memory.wf 0x2000 [] = true := by decide
  exact ⟨by decide +kernel, by decide +kernel, by decide +kernel, by decide +kernel,
    fun full cart => ⟨⟨(by decide : 1 ≤ 0x2000), none, (by decide : Memory.wf hramSize [] = true),
      (by decide : Memory.wf ioSize postBootIo = true), none, (by decide : Memory.wf oamSize [] = true),
      (by decide : Memory.wf 0x2000 [(0, 0x5A)] = true)⟩, rfl, rfl⟩, by decide +kernel, by decide +kernel,
    ⟨quiet_canonical.ramNonempty, quiet_canonical.wram, quiet_canonical.hram, quiet_canonical.io, quiet_canonical.vram,
      quiet_canonical.oam, quiet_canonical.cartRam⟩, by decide +kernel⟩

theorem live_sorted : ScheduleSorted live.entries :=
  ⟨by decide, [⟨80, .ppu⟩], rfl, by decide⟩

/-- At the time of an event already listed, and at the last legal time; then each way a push is not legal. -/
theorem witness_PushKeepsOrder :
    (∃ s : State, ScheduleSorted s.entries ∧ s.modelFault = none ∧ EventKind.timers ≠ .panic
        ∧ 80 < panicTime ∧ panicTime - 1 < panicTime ∧ s.entries.length < 32)
      ∧ (∃ s : State, s.modelFault = none ∧ panicTime ≤ panicTime)
      ∧ (∃ s : State, s.modelFault = none ∧ 80 < panicTime ∧ 32 ≤ s.entries.length)
      ∧ (∃ s : State, s.modelFault ≠ none) :=
  ⟨⟨live, live_sorted, rfl, by decide, by decide, by decide, by decide⟩, ⟨live, rfl, Nat.le_refl _⟩,
    ⟨{ live with entries := List.replicate 32 panicSentinel }, rfl, by decide, by decide⟩,
    ⟨{ live with modelFault := some .schedulerPanic }, by decide⟩⟩

theorem witness_DivCounts : ∃ s : State, Memory.wf ioSize s.io = true ∧ s.divSub < 256 :=
  ⟨{ live with divSub := 255 }, by decide, by decide⟩

/-- Off; on and just not overflowing; on and just overflowing. -/
theorem witness_TimaCounts :
    (∃ s : State, Memory.wf ioSize s.io = true ∧ (Memory.read s.io 0x07).getLsbD 2 = false)
      ∧ (∃ s : State, Memory.wf ioSize s.io = true ∧ (Memory.read s.io 0x07).getLsbD 2 = true
        ∧ (Memory.read s.io 0x05).toNat + (s.timaSub + 16) / 16 = 255)
      ∧ (∃ s : State, Memory.wf ioSize s.io = true ∧ (Memory.read s.io 0x07).getLsbD 2 = true
        ∧ (Memory.read s.io 0x05).toNat + (s.timaSub + 16) / 16 = 256) :=
  ⟨⟨State.reset, by decide +kernel⟩, ⟨{ State.reset with io := [(0x05, 0xFE), (0x07, 0x05)] }, by decide +kernel⟩,
    ⟨{ State.reset with io := [(0x05, 0xFF), (0x07, 0x05)] }, by decide +kernel⟩⟩

theorem witness_FullFrame : ∃ (s : State) (t0 : Nat), Memory.wf ioSize s.io = true ∧ s.displayOn = true
    ∧ s.mode = .oamScan ∧ s.ly = 0 ∧ s.modelFault = none ∧ s.entries = [⟨t0 + 80, .ppu⟩, panicSentinel]
    ∧ t0 + 80000 < panicTime ∧ bitOf (Memory.read s.io 0x0F) 0 = false :=
  ⟨{ live with io := [(offLCDC, 0x91)] }, 0, by decide +kernel⟩

theorem witness_DisplayInterrupts : (∃ s : State, Memory.wf ioSize s.io = true ∧ s.displayOn = false)
    ∧ ∀ m : PpuMode, Memory.wf ioSize (inMode m).io = true ∧ (inMode m).displayOn = true ∧ (inMode m).mode = m := by
  refine ⟨⟨State.reset, by decide +kernel⟩, fun m => ?_⟩
  exact ⟨(by decide : Memory.wf ioSize postBootIo = true), (by decide : (inMode .hBlank).displayOn = true), rfl⟩

/-- The last pixel of a line, with the background off and on and the sprites off; an event that renders and two that do
not. -/
theorem witness_RenderFrame :
    ([(0x00 : Byte), 0x21].all fun v =>
      let s := { State.reset with io := Memory.write [] offLCDC v }
      decide (1 ≠ s.ly.toNat ∧ s.ly.toNat < s.fb.length ∧ 159 < 160 ∧ bitOf (Memory.read s.io 0x40) 1 = false))
      ∧ (live.displayOn = true ∧ live.mode = .oamScan) ∧ State.reset.displayOn = false ∧ (inMode .hBlank).mode ≠ .oamScan := by
  decide +kernel

/-- Two sprites that overlap on line 0, the later one in OAM further to the left. -/
def twoSprites (lcdc : Byte) : State :=
  { State.reset with
    io := [(offLCDC, lcdc), (offBGP, 0xE4), (offOBP0, 0x1B)]
    vram := [(0x0020, 0xFF)]
    oam := [(0, 16), (1, 12), (2, 2), (4, 16), (5, 10), (6, 2)] }

/-- The background where sprites are off, and where none draws; the sprite further to the left where both draw. -/
theorem witness_SpritePriority :
    bitOf (Memory.read (twoSprites 0x91).io 0x40) 1 = false
      ∧ (twoSprites 0x93).selected ≠ [] ∧ (∀ o ∈ (twoSprites 0x93).selected, (twoSprites 0x93).drawnAt o 100 = none)
      ∧ (bitOf (Memory.read (twoSprites 0x93).io 0x40) 1 = true
        ∧ ∃ (before after : List Sprite) (o : Sprite) (colour : BitVec 32),
          (twoSprites 0x93).selected = before ++ o :: after ∧ (twoSprites 0x93).drawnAt o 4 = some colour
            ∧ (∀ p ∈ before, (twoSprites 0x93).drawnAt p 4 = none ∨ o.x.toNat < p.x.toNat)
            ∧ (∀ p ∈ after, (twoSprites 0x93).drawnAt p 4 = none ∨ o.x.toNat ≤ p.x.toNat)) := by
  have sel : (twoSprites 0x93).selected = [⟨16, 12, 2, 0⟩] ++ [⟨16, 10, 2, 0⟩] := by decide +kernel
  refine ⟨by decide +kernel, by decide +kernel, ?_, by decide +kernel, [⟨16, 12, 2, 0⟩], [], ⟨16, 10, 2, 0⟩, _, sel, rfl,
    by decide +kernel, by simp⟩
  rw [sel]
  intro o h
  rcases (by simpa using h : o = ⟨16, 12, 2, 0⟩ ∨ o = ⟨16, 10, 2, 0⟩) with rfl | rfl <;> rfl

/-- A canonical state, and an index at both ends of the stream and of the battery file. -/
theorem witness_SavestateRoundTrip : ∃ s : State, MemoriesCanonical s ∧ 0 < 16800 ∧ 16799 < 16800
    ∧ 0 < s.cfg.cartRamBytes ∧ 0x1FFF < s.cfg.cartRamBytes :=
  ⟨live, live_canonical, by decide, by decide, by decide, by decide⟩

/-- A machine whose image has this type byte. -/
def withKind (kind : Byte) : State := { State.reset with cfg := { Config.initial with rom := Memory.write [] 0x147 kind } }

/-- R101 and U6: Reset, Stop and power-on refuse what LoadROM refuses; the last row of the table is an MBC5. -/
theorem test_refused_cartridges :
    hostReset (withKind 0x04) = .refused (.unknownCartridge 0x04) ∧ hostStop (withKind 0xFF) = .refused (.unknownCartridge 0xFF)
      ∧ powerOn { Config.initial with romLength := 0 } = .refused .emptyRom
      ∧ meets (hostReset (withKind 0x1E)) (fun t => decide (t.cart = .mbc5 mbc5Reset)) = true :=
  ⟨rfl, rfl, rfl, by decide +kernel⟩

theorem witness_ResetStates :
    (∃ s : State, s.cfg.romLength = 0) ∧ (let s := withKind 0x04; 1 ≤ s.cfg.romLength ∧ Memory.read s.cfg.rom 0x147 = 0x04)
      ∧ (let s := withKind 0x1E; 1 ≤ s.cfg.romLength ∧ Memory.read s.cfg.rom 0x147 = 0x1E) :=
  ⟨⟨{ State.reset with cfg := { Config.initial with romLength := 0 } }, rfl⟩, by decide +kernel, by decide +kernel⟩

/-- An image whose type byte is `kind`. -/
def typed (kind : Byte) : List Byte := List.replicate 0x147 0 ++ [kind]

/-- Each clause; the table's rows at both ends of each group. -/
theorem witness_LoadRomResult :
    (typed 0x04 ≠ [] ∧ ((typed 0x04).getD 0x147 0).toNat ∉ [0x00, 0x01, 0x02, 0x03, 0x05, 0x06, 0x08, 0x09, 0x0F,
        0x10, 0x11,
        0x12, 0x13, 0x19, 0x1A, 0x1B, 0x1C, 0x1D, 0x1E])
      ∧ ([(0x00 : Byte), 0x09, 0x01, 0x03, 0x05, 0x06, 0x0F, 0x13, 0x19, 0x1E].all fun k =>
        decide ((typed k).getD 0x147 0 = k) && meets (hostLoadRom (typed k) [] State.reset) fun _ => true) := by
  decide +kernel

theorem witness_ResetMeetsInvariant : ∃ s : State, Config.Legal s.cfg := ⟨State.reset, initial_legal⟩

/-- One state for the four statements about what every step keeps. -/
theorem witness_StepKeepsInvariant : ∃ s t : State, Invariant s ∧ FlagsClean s ∧ MemoriesCanonical s ∧ DisplayConsistent s
    ∧ FrameShape s ∧ step s = .next t :=
  ⟨live, live_steps.choose, live_invariant, live_invariant.flags, live_canonical, live_consistent, live_invariant.frame,
    live_steps.choose_spec.1⟩

end Sys2Proof.Tests
end

section
/-! PROOFS. The stack in work RAM: what a push leaves for a pop, and the instructions that push and pop (O33). -/

namespace Sys2Proof.Machine

/-! Reading a word back from work RAM. -/

/-- A word stored in work RAM reads back; its two bytes must both lie there, below the echo. -/
theorem memRead16_memWrite16_wram {s : State} {a : Word} (v : Word) (w : Memory.wf wramSize s.wram = true)
    (h1 : 0xC000 ≤ a.toNat) (h2 : a.toNat < 0xDFFF) : (s.memWrite16 a v).memRead16 a = v := by
  have next : (a + 1).toNat = a.toNat + 1 := by bv_omega
  have write1 (t : State) (b : Byte) := busWrite_wram (s := t) (v := b) h1 (by omega)
  have write2 (t : State) (b : Byte) := busWrite_wram (s := t) (a := a + 1) (v := b) (by omega) (by omega)
  have read1 (t : State) := busRead_wram (s := t) h1 (by omega)
  have read2 (t : State) := busRead_wram (s := t) (a := a + 1) (by omega) (by omega)
  have w' : Memory.wf wramSize (Memory.write s.wram (a.toNat - 0xC000) (lowByte v)) = true :=
    Memory.write_wf w (by unfold wramSize; omega)
  have apart : a.toNat - 0xC000 ≠ a.toNat + 1 - 0xC000 := by omega
  simp only [State.memRead16, State.memWrite16, write1, write2, read1, read2, next, Memory.read_write_same w',
    Memory.read_write_other apart, Memory.read_write_same w, joinBytes_split]

/-! Push and pop (R12). -/

@[simp] theorem State.push16_sp (s : State) (v : Word) : (s.push16 v).sp = s.sp - 2 := by
  simp only [State.push16, State.memWrite16, busWrite_sp]

/-- The pointer that a push lowered and a pop raised. -/
theorem sp_sub_two_add_two (sp : Word) : sp - 2 + 2 = sp := BitVec.sub_add_cancel sp 2

@[simp] theorem State.advance_popValue (s : State) (n k : Nat) : (s.advance n k).popValue = s.popValue := rfl
@[simp] theorem State.jump_popValue (s : State) (a : Word) : (s.jump a).popValue = s.popValue := rfl

/-- What is pushed on a stack in work RAM is what is popped. -/
theorem popValue_push16 {s : State} (v : Word) (w : Memory.wf wramSize s.wram = true) (h1 : 0xC002 ≤ s.sp.toNat)
    (h2 : s.sp.toNat ≤ 0xE000) : (s.push16 v).popValue = v := by
  have below : (s.sp - 2).toNat = s.sp.toNat - 2 := by bv_omega
  rw [State.popValue, State.push16_sp]
  exact memRead16_memWrite16_wram (s := { s with sp := s.sp - 2 }) v w (by omega) (by omega)

/-! Calls, interrupt entry and returns. -/

@[simp] theorem returnFromCall_pc (s : State) : (returnFromCall s).pc = s.popValue := rfl
@[simp] theorem returnFromCall_sp (s : State) : (returnFromCall s).sp = s.sp + 2 := rfl

/-- After a call, whatever the return fetches and costs, it goes to the instruction after the call and restores SP. -/
theorem returnFromCall_callTo {s : State} (target : Word) (len cost n k : Nat) (w : Memory.wf wramSize s.wram = true)
    (h1 : 0xC002 ≤ s.sp.toNat) (h2 : s.sp.toNat ≤ 0xE000) :
    let t := returnFromCall ((callTo target len cost s).advance n k)
    t.pc = s.pc + BitVec.ofNat 16 len ∧ t.sp = s.sp := by
  simp only [callTo, returnFromCall_pc, returnFromCall_sp, State.advance_popValue, State.jump_popValue,
    popValue_push16 (s := s.advance len cost) _ w h1 h2, State.advance_pc, State.advance_sp, State.jump_sp,
    State.push16_sp, sp_sub_two_add_two, and_self]

@[simp] theorem returnFromInterrupt_pc (s : State) : (returnFromInterrupt s).pc = s.popValue := rfl
@[simp] theorem returnFromInterrupt_sp (s : State) : (returnFromInterrupt s).sp = s.sp + 2 := rfl
@[simp] theorem returnFromInterrupt_ime (s : State) : (returnFromInterrupt s).ime = true := rfl

@[simp] theorem interruptEntry_sp (i : Nat) (s : State) : (interruptEntry i s).sp = s.sp - 2 := by
  simp only [interruptEntry, State.push16_sp, State.setIo_sp]

/-- A pop reads the bus at SP and nothing else of the CPU. -/
theorem CpuOnly.popValue_eq {s t : State} (h : CpuOnly s t) (sp : t.sp = s.sp) : t.popValue = s.popValue := by
  rw [State.popValue, State.popValue, sp, h]
  rfl

/-- The entry pushes the program counter of the interrupted instruction; clearing the flag does not touch the stack. -/
theorem interruptEntry_popValue {s : State} (i : Nat) (w : Memory.wf wramSize s.wram = true) (h1 : 0xC002 ≤ s.sp.toNat)
    (h2 : s.sp.toNat ≤ 0xE000) : (interruptEntry i s).popValue = s.pc := by
  let cleared := s.setIo offIF (s.ifReg &&& (0xFF ^^^ ((1 : Byte) <<< i)))
  have entered : CpuOnly (cleared.push16 s.pc) (interruptEntry i s) := rfl
  rw [entered.popValue_eq (by rw [interruptEntry_sp, State.push16_sp, State.setIo_sp]), popValue_push16 (s := cleared) s.pc w h1 h2]

/-! The instructions by their operand. -/

theorem exec_ofPush (p : StackPair) (s : State) : exec (.ofPush p) s = pushPair p s := by cases p <;> rfl
theorem exec_ofPop (p : StackPair) (s : State) : exec (.ofPop p) s = popPair p s := by cases p <;> rfl
theorem exec_ofRst (k : Bit3) (s : State) : exec (.ofRst k) s = rstTo k s := by cases k <;> rfl

@[simp] theorem State.setStackPair_sp (s : State) (p : StackPair) (w : Word) : (s.setStackPair p w).sp = s.sp := by
  cases p <;> rfl

end Sys2Proof.Machine

open Sys2Proof Sys2Proof.Machine

/-- Settles O33: each instruction that pushes leaves `s` at SP - 2 with the word on top (`popValue_push16`), and each that
pops takes the word from there. -/
theorem stackRoundTrip : Obligations.StackRoundTrip := by
  intro s t u nn i canonical h1 h2 high low
  have w := canonical.wram
  have high_pushed (p : StackPair) : highByte (s.stackPair p) = high s p := by cases p <;> exact highByte_joinBytes _ _
  have low_pushed (p : StackPair) : lowByte (s.stackPair p) = low s p := by cases p <;> exact lowByte_joinBytes _ _
  have high_popped (x : State) (q : StackPair) (v : Word) : high (x.setStackPair q v) q = highByte v := by
    cases q <;> rfl
  have low_popped (x : State) (q : StackPair) (v : Word) :
      low (x.setStackPair q v) q = if q = .af then lowByte v &&& 0xF0 else lowByte v := by cases q <;> rfl
  refine ⟨fun p q push pop => ?_, fun call ret => ?_, fun k rst ret => ?_, fun reti => ?_⟩
  · rw [exec_ofPush] at push
    rw [exec_ofPop] at pop
    cases push
    cases pop
    rw [high_popped, low_popped, popValue_push16 (s := s.advance 1 16) _ w h1 h2, high_pushed, low_pushed]
    refine ⟨rfl, rfl, ?_⟩
    rw [State.setStackPair_sp, State.popped_sp, State.advance_sp, State.push16_sp, State.advance_sp, sp_sub_two_add_two]
  · cases call
    cases ret
    exact returnFromCall_callTo nn 3 24 1 16 w h1 h2
  · rw [exec_ofRst] at rst
    cases rst
    cases ret
    exact returnFromCall_callTo _ 1 16 1 16 w h1 h2
  · cases reti
    simp only [returnFromInterrupt_pc, returnFromInterrupt_sp, returnFromInterrupt_ime, State.advance_popValue,
      State.advance_sp, interruptEntry_popValue i w h1 h2, interruptEntry_sp, sp_sub_two_add_two, and_self]

end

section
/-! PROOFS. The bus (20_memory.md): the locks, the regions that Laws/Bus.lean leaves out, and what a read at an address
depends on. -/

namespace Sys2Proof.Machine

/-! The locks (R70, R74, R418). -/

theorem vramLocked_iff (s : State) :
    s.vramLocked = true ↔ bitOf (Memory.read s.io 0x40) 7 = true ∧ s.mode = .pixelTransfer := by
  show (bitOf (Memory.read s.io 0x40) 7 && s.mode == .pixelTransfer) = true ↔ _
  simp

theorem oamLocked_iff (s : State) :
    s.oamLocked = true ↔ bitOf (Memory.read s.io 0x40) 7 = true ∧ (s.mode = .oamScan ∨ s.mode = .pixelTransfer) := by
  show (bitOf (Memory.read s.io 0x40) 7 && (s.mode == .oamScan || s.mode == .pixelTransfer)) = true ↔ _
  simp

theorem vramOpen_iff (s : State) :
    s.vramLocked = false ↔ bitOf (Memory.read s.io 0x40) 7 = false ∨ s.mode ≠ .pixelTransfer := by
  rw [← Bool.not_eq_true, vramLocked_iff, Decidable.not_and_iff_not_or_not, Bool.not_eq_true]

theorem oamOpen_iff (s : State) : s.oamLocked = false ↔
    bitOf (Memory.read s.io 0x40) 7 = false ∨ (s.mode ≠ .oamScan ∧ s.mode ≠ .pixelTransfer) := by
  rw [← Bool.not_eq_true, oamLocked_iff, Decidable.not_and_iff_not_or_not, not_or, Bool.not_eq_true]

/-! The regions that Laws/Bus.lean leaves out. -/

section
variable {s : State} {a : Word} (v : Byte)

/-- Work RAM and its echo name one array, whose index is the address modulo its size (R72, R73). -/
theorem bus_workRam (h1 : 0xC000 ≤ a.toNat) (h2 : a.toNat ≤ 0xFDFF) :
    busRead s a = Memory.read s.wram ((a.toNat - 0xC000) % 0x2000)
      ∧ busWrite s a v = { s with wram := Memory.write s.wram ((a.toNat - 0xC000) % 0x2000) v } := by
  by_cases base : a.toNat ≤ 0xDFFF
  · have index : (a.toNat - 0xC000) % 0x2000 = a.toNat - 0xC000 := by omega
    rw [index]
    exact ⟨busRead_wram h1 base, busWrite_wram h1 base⟩
  · have index : (a.toNat - 0xC000) % 0x2000 = a.toNat - 0xE000 := by omega
    rw [index]
    exact bus_echo v (by omega) h2

/-- Video RAM while it is locked (R70). -/
theorem bus_vram_locked (h1 : 0x8000 ≤ a.toNat) (h2 : a.toNat ≤ 0x9FFF) (locked : s.vramLocked = true) :
    busRead s a = 0xFF ∧ busWrite s a v = s := by
  simp (disch := omega) only [busRead, busWrite, if_neg, if_pos h2, locked, if_true, and_self]

/-- OAM while it is locked (R74). -/
theorem bus_oam_locked (h1 : 0xFE00 ≤ a.toNat) (h2 : a.toNat ≤ 0xFE9F) (locked : s.oamLocked = true) :
    busRead s a = 0xFF ∧ busWrite s a v = s := by
  simp (disch := omega) only [busRead, busWrite, if_neg, if_pos h2, locked, if_true, and_self]

/-- The unusable range (R75). -/
theorem bus_unusable (h1 : 0xFEA0 ≤ a.toNat) (h2 : a.toNat ≤ 0xFEFF) : busRead s a = 0xFF ∧ busWrite s a v = s := by
  simp (disch := omega) only [busRead, busWrite, if_neg, if_pos h2, and_self]

end

/-! What a read depends on. -/

/-- Two states agree on everything that a read at `b` consults (R66). -/
structure ReadsAlike (s t : State) (b : Word) : Prop where
  cfg : t.cfg = s.cfg := by rfl
  overlay : b.toNat ≤ 0x00FF → t.bootActive = s.bootActive := by intros; rfl
  rom : b.toNat ≤ 0x7FFF → cartReadRom t.cfg t.cart b.toNat = cartReadRom s.cfg s.cart b.toNat := by intros; rfl
  vramLocked : 0x8000 ≤ b.toNat → b.toNat ≤ 0x9FFF → t.vramLocked = s.vramLocked := by intros; rfl
  vram : 0x8000 ≤ b.toNat → b.toNat ≤ 0x9FFF →
    Memory.read t.vram (b.toNat - 0x8000) = Memory.read s.vram (b.toNat - 0x8000) := by intros; rfl
  cartRam : 0xA000 ≤ b.toNat → b.toNat ≤ 0xBFFF →
    cartReadRam t.cfg t.cart t.cartRam b.toNat = cartReadRam s.cfg s.cart s.cartRam b.toNat := by intros; rfl
  wram : 0xC000 ≤ b.toNat → b.toNat ≤ 0xFDFF → ∀ k, k = (b.toNat - 0xC000) % 0x2000 →
    Memory.read t.wram k = Memory.read s.wram k := by intros; rfl
  oamLocked : 0xFE00 ≤ b.toNat → b.toNat ≤ 0xFE9F → t.oamLocked = s.oamLocked := by intros; rfl
  oam : 0xFE00 ≤ b.toNat → b.toNat ≤ 0xFE9F →
    Memory.read t.oam (b.toNat - 0xFE00) = Memory.read s.oam (b.toNat - 0xFE00) := by intros; rfl
  io : 0xFF00 ≤ b.toNat → b.toNat ≤ 0xFF7F → ioRead t (b.toNat - 0xFF00) = ioRead s (b.toNat - 0xFF00) := by intros; rfl
  hram : 0xFF80 ≤ b.toNat → b.toNat ≤ 0xFFFE →
    Memory.read t.hram (b.toNat - 0xFF80) = Memory.read s.hram (b.toNat - 0xFF80) := by intros; rfl
  ie : b.toNat = 0xFFFF → t.ie = s.ie := by intros; rfl

/-- The dispatch of `busRead`, branch by branch. -/
theorem ReadsAlike.busRead_eq {s t : State} {b : Word} (h : ReadsAlike s t b) : busRead t b = busRead s b := by
  have range := b.isLt
  have overlay : (b.toNat ≤ 0x00FF ∧ t.bootActive = true) = (b.toNat ≤ 0x00FF ∧ s.bootActive = true) :=
    propext (and_congr_right fun low => by rw [h.overlay low])
  unfold busRead
  refine ite_congr overlay (fun _ => by rw [h.cfg]) fun _ => ?_
  refine ite_congr rfl h.rom fun _ => ?_
  refine ite_congr rfl (fun _ => by rw [h.vramLocked (by omega) (by omega), h.vram (by omega) (by omega)]) fun _ => ?_
  refine ite_congr rfl (h.cartRam (by omega)) fun _ => ?_
  refine ite_congr rfl (fun _ => h.wram (by omega) (by omega) _ (by omega)) fun _ => ?_
  refine ite_congr rfl (fun _ => h.wram (by omega) (by omega) _ (by omega)) fun _ => ?_
  refine ite_congr rfl (fun _ => by rw [h.oamLocked (by omega) (by omega), h.oam (by omega) (by omega)]) fun _ => ?_
  refine ite_congr rfl (fun _ => rfl) fun _ => ?_
  refine ite_congr rfl (h.io (by omega)) fun _ => ?_
  exact ite_congr rfl (h.hram (by omega)) fun _ => h.ie (by omega)

end Sys2Proof.Machine
end

section
/-! PROOFS. The storage regions: locked ranges, cells and frames of a store (O34, O35, O38). -/

namespace Sys2Proof.Machine

/-! A stored byte reads back. -/

section
variable {s : State} {a b : Word} (v : Byte)

/-- A byte stored in work RAM or its echo reads back at every address of the same cell. -/
theorem workRam_readsBack (w : Memory.wf wramSize s.wram = true) (ha : 0xC000 ≤ a.toNat ∧ a.toNat ≤ 0xFDFF)
    (hb : 0xC000 ≤ b.toNat ∧ b.toNat ≤ 0xFDFF) (cell : b.toNat % 0x2000 = a.toNat % 0x2000) :
    busRead (busWrite s a v) b = v := by
  have index : (b.toNat - 0xC000) % 0x2000 = (a.toNat - 0xC000) % 0x2000 := by omega
  rw [(bus_workRam v ha.1 ha.2).2, (bus_workRam v hb.1 hb.2).1, index]
  exact Memory.read_write_same w

theorem hram_readsBack (w : Memory.wf hramSize s.hram = true) (ha : 0xFF80 ≤ a.toNat ∧ a.toNat ≤ 0xFFFE) :
    busRead (busWrite s a v) a = v := by
  rw [(bus_hram v ha.1 ha.2).2, (bus_hram v ha.1 ha.2).1]
  exact Memory.read_write_same w

theorem vram_readsBack (w : Memory.wf vramSize s.vram = true) (ha : 0x8000 ≤ a.toNat ∧ a.toNat ≤ 0x9FFF)
    (unlocked : s.vramLocked = false) : busRead (busWrite s a v) a = v := by
  rw [(bus_vram v ha.1 ha.2 unlocked).2,
    (bus_vram (s := { s with vram := Memory.write s.vram (a.toNat - 0x8000) v }) v ha.1 ha.2 unlocked).1]
  exact Memory.read_write_same w

theorem oam_readsBack (w : Memory.wf oamSize s.oam = true) (ha : 0xFE00 ≤ a.toNat ∧ a.toNat ≤ 0xFE9F)
    (unlocked : s.oamLocked = false) : busRead (busWrite s a v) a = v := by
  rw [(bus_oam v ha.1 ha.2 unlocked).2,
    (bus_oam (s := { s with oam := Memory.write s.oam (a.toNat - 0xFE00) v }) v ha.1 ha.2 unlocked).1]
  exact Memory.read_write_same w

end

/-! The frame of a store. -/

/-- A store to the cartridge RAM window changes what no window address of another cell reads. -/
theorem cartReadRam_cartWriteRam_other {cfg : Config} {cart : Cartridge} {m : Memory} {a b : Nat} {v : Byte}
    (apart : cartRamTarget cfg cart a ≠ cartRamTarget cfg cart b) :
    cartReadRam cfg cart (cartWriteRam cfg cart m a v) b = cartReadRam cfg cart m b := by
  unfold cartWriteRam
  split
  next i stored =>
    unfold cartReadRam
    split
    next j read =>
      have other : j ≠ i := fun same => apart (by rw [stored, read, same])
      rw [Memory.read_write_other other]
    next => rfl
  next => rfl

section
variable (s : State) {a : Word} (v : Byte)

/-- A store to video RAM changes that array or, while it is locked, nothing. -/
theorem busWrite_vram_only (h1 : 0x8000 ≤ a.toNat) (h2 : a.toNat ≤ 0x9FFF) :
    busWrite s a v = { s with vram := if s.vramLocked then s.vram else Memory.write s.vram (a.toNat - 0x8000) v } := by
  cases locked : s.vramLocked with
  | true => exact (bus_vram_locked v h1 h2 locked).2
  | false => exact (bus_vram v h1 h2 locked).2

/-- A store to OAM changes that array or, while it is locked, nothing. -/
theorem busWrite_oam_only (h1 : 0xFE00 ≤ a.toNat) (h2 : a.toNat ≤ 0xFE9F) :
    busWrite s a v = { s with oam := if s.oamLocked then s.oam else Memory.write s.oam (a.toNat - 0xFE00) v } := by
  cases locked : s.oamLocked with
  | true => exact (bus_oam_locked v h1 h2 locked).2
  | false => exact (bus_oam v h1 h2 locked).2

/-- A store outside the cartridge registers and the I/O registers is seen only at the cell that it names (R66, R67). -/
theorem busRead_busWrite_other {b : Word} (storage : (0x8000 ≤ a.toNat ∧ a.toNat < 0xFF00) ∨ 0xFF80 ≤ a.toNat)
    (apart : a ≠ b)
    (echo : ¬(0xC000 ≤ a.toNat ∧ a.toNat ≤ 0xFDFF ∧ 0xC000 ≤ b.toNat ∧ b.toNat ≤ 0xFDFF
      ∧ a.toNat % 0x2000 = b.toNat % 0x2000))
    (folded : ¬(0xA000 ≤ a.toNat ∧ a.toNat ≤ 0xBFFF ∧ 0xA000 ≤ b.toNat ∧ b.toNat ≤ 0xBFFF
      ∧ cartRamTarget s.cfg s.cart a.toNat = cartRamTarget s.cfg s.cart b.toNat)) :
    busRead (busWrite s a v) b = busRead s b := by
  have range := a.isLt
  have other : b.toNat ≠ a.toNat := fun same => apart (BitVec.eq_of_toNat_eq same.symm)
  by_cases vram : a.toNat ≤ 0x9FFF
  · rw [busWrite_vram_only s v (by omega) vram]
    refine ReadsAlike.busRead_eq { vram := fun _ _ => ?_ }
    split
    · rfl
    · exact Memory.read_write_other (by omega)
  by_cases cartRam : a.toNat ≤ 0xBFFF
  · rw [busWrite_cartRam (by omega) cartRam]
    refine ReadsAlike.busRead_eq { cartRam := fun h1 h2 => cartReadRam_cartWriteRam_other fun same => ?_ }
    exact folded ⟨by omega, cartRam, h1, h2, same⟩
  by_cases wram : a.toNat ≤ 0xFDFF
  · rw [(bus_workRam v (by omega) wram).2]
    exact ReadsAlike.busRead_eq { wram := fun _ _ k _ => Memory.read_write_other (by omega) }
  by_cases oam : a.toNat ≤ 0xFE9F
  · rw [busWrite_oam_only s v (by omega) oam]
    refine ReadsAlike.busRead_eq { oam := fun _ _ => ?_ }
    split
    · rfl
    · exact Memory.read_write_other (by omega)
  by_cases unusable : a.toNat ≤ 0xFEFF
  · rw [(bus_unusable v (by omega) unusable).2]
  by_cases hram : a.toNat ≤ 0xFFFE
  · rw [(bus_hram v (by omega) hram).2]
    exact ReadsAlike.busRead_eq { hram := fun _ _ => Memory.read_write_other (by omega) }
  · obtain rfl : a = 0xFFFF := BitVec.eq_of_toNat_eq (by omega : a.toNat = 0xFFFF)
    exact ReadsAlike.busRead_eq { ie := fun top => absurd top other }

end

end Sys2Proof.Machine

open Sys2Proof Sys2Proof.Machine

/-- Settles O38: a lock in the statement's spelling is the lock of the bus (`vramLocked_iff`, `oamLocked_iff`). -/
theorem lockedAndUnusable : Obligations.LockedAndUnusable := by
  rintro s a v (⟨h1, h2, locked⟩ | ⟨h1, h2, locked⟩ | ⟨h1, h2⟩)
  · exact bus_vram_locked v h1 h2 ((vramLocked_iff s).mpr locked)
  · exact bus_oam_locked v h1 h2 ((oamLocked_iff s).mpr locked)
  · exact bus_unusable v h1 h2

/-- Settles O34: each region's cell, and that an array holds what was stored in it. -/
theorem storeReadsBack : Obligations.StoreReadsBack := by
  intro s a v vramOpen oamOpen inWram inHram inVram inOam back
  refine ⟨fun ⟨h1, h2⟩ => bus_workRam v h1 h2, fun ⟨h1, h2⟩ => bus_hram v h1 h2, bus_ie s v,
    fun ⟨h1, h2, unlocked⟩ => bus_vram v h1 h2 ((vramOpen_iff s).mpr unlocked),
    fun ⟨h1, h2, unlocked⟩ => bus_oam v h1 h2 ((oamOpen_iff s).mpr unlocked), fun m size k j w => ?_,
    fun canonical region => ⟨?_, fun base => ?_, fun echo => ?_⟩⟩
  · split
    next same => rw [same, Memory.read_write_same w]
    next other => exact Memory.read_write_other other
  · rcases region with range | range | rfl | ⟨h1, h2, unlocked⟩ | ⟨h1, h2, unlocked⟩
    · exact workRam_readsBack v canonical.wram range range rfl
    · exact hram_readsBack v canonical.hram range
    · rfl
    · exact vram_readsBack v canonical.vram ⟨h1, h2⟩ ((vramOpen_iff s).mpr unlocked)
    · exact oam_readsBack v canonical.oam ⟨h1, h2⟩ ((oamOpen_iff s).mpr unlocked)
  · have up : (a + 0x2000).toNat = a.toNat + 0x2000 := by bv_omega
    exact workRam_readsBack v canonical.wram (by omega) (by omega) (by omega)
  · have down : (a - 0x2000).toNat = a.toNat - 0x2000 := by bv_omega
    exact workRam_readsBack v canonical.wram (by omega) (by omega) (by omega)

/-- Settles O35: the read frame of a store (`busRead_busWrite_other`), and each region's store as one changed array. -/
theorem storageStoreFrame : Obligations.StorageStoreFrame := fun s _ v =>
  ⟨fun _ => busRead_busWrite_other s v,
    fun h1 h2 => ⟨_, busWrite_vram_only s v h1 h2⟩, fun h1 h2 => ⟨_, busWrite_cartRam h1 h2⟩,
    fun h1 h2 => ⟨_, (bus_workRam v h1 h2).2⟩, fun h1 h2 => ⟨_, busWrite_oam_only s v h1 h2⟩,
    fun h1 h2 => (bus_unusable v h1 h2).2, fun h1 h2 => ⟨_, (bus_hram v h1 h2).2⟩, (bus_ie s v).2⟩

end

section
/-! PROOFS. What a store to an I/O register leaves to be read elsewhere, and the OAM copy (O36, O41). -/

namespace Sys2Proof.Machine

/-! What a store to an I/O register leaves to be read. -/

/-- An I/O read depends on its own byte and the joypad latch; STAT also on LY, LYC, the display switch and the mode. -/
theorem ioRead_congr {s t : State} {k : Nat} (pressed : t.pressed = s.pressed)
    (byte : Memory.read t.io k = Memory.read s.io k)
    (stat : k = offSTAT → t.ly = s.ly ∧ t.lyc = s.lyc ∧ t.displayOn = s.displayOn ∧ t.mode = s.mode) :
    ioRead t k = ioRead s k := by
  unfold ioRead
  refine ite_congr rfl (fun p1 => ?_) fun _ => ite_congr rfl (fun isStat => ?_) fun _ => byte
  · subst p1
    unfold State.p1Value State.ioByte
    rw [byte, pressed]
  · obtain ⟨ly, lyc, on, mode⟩ := stat isStat
    subst isStat
    simp only [State.statValue, State.statStored, State.ioByte, byte, ly, lyc, on, mode]

section
variable {s : State} {off : Nat} {v : Byte}

theorem displayOn_setIo (other : off ≠ offLCDC) : (s.setIo off v).displayOn = s.displayOn :=
  congrArg (bitOf · 7) (read_setIo_other other.symm)

theorem vramLocked_setIo (other : off ≠ offLCDC) : (s.setIo off v).vramLocked = s.vramLocked :=
  congrArg (· && s.mode == .pixelTransfer) (displayOn_setIo other)

theorem oamLocked_setIo (other : off ≠ offLCDC) : (s.setIo off v).oamLocked = s.oamLocked :=
  congrArg (· && (s.mode == .oamScan || s.mode == .pixelTransfer)) (displayOn_setIo other)

/-- A byte stored in the I/O array, other than LCDC and LY, is seen at its own address and, LYC, in STAT. -/
theorem busRead_setIo_other {b : Word} (lcdc : off ≠ offLCDC) (ly : off ≠ offLY)
    (other : b.toNat ≠ 0xFF00 + off) (lyc : off = offLYC → b ≠ 0xFF41) : busRead (s.setIo off v) b = busRead s b := by
  refine ReadsAlike.busRead_eq { vramLocked := fun _ _ => vramLocked_setIo lcdc, oamLocked := fun _ _ => oamLocked_setIo lcdc
                                 io := fun h1 _ => ioRead_congr rfl (read_setIo_other (by omega)) fun stat => ?_ }
  have notLyc : off ≠ offLYC := fun isLyc =>
    lyc isLyc (BitVec.eq_of_toNat_eq (by unfold offSTAT at stat; omega : b.toNat = 0xFF41))
  exact ⟨read_setIo_other ly.symm, read_setIo_other notLyc.symm, displayOn_setIo lcdc, rfl⟩

end

/-- Another OAM array is seen where its byte differs. -/
theorem busRead_withOam {s : State} {b : Word} (m : Memory) (same : 0xFE00 ≤ b.toNat → b.toNat ≤ 0xFE9F →
      Memory.read m (b.toNat - 0xFE00) = Memory.read s.oam (b.toNat - 0xFE00)) :
    busRead { s with oam := m } b = busRead s b := ReadsAlike.busRead_eq { oam := same }

/-- The write of LCDC changes what the display controller owns. -/
theorem writeLcdc_only (s : State) (v : Byte) : OnlyDisplay s (writeLcdc s v) := by
  unfold writeLcdc
  dsimp only
  split
  · rfl
  · split
    · exact OnlyDisplay.trans (t := { (s.setIo offLCDC v).setIo offLY 0 with wlc := 0, mode := .oamScan }) rfl
        (schedPush_only _ _ _)
    · rfl

/-- The write of LCDC changes two bytes of the I/O array: LCDC and LY (R413, R414). -/
theorem read_writeLcdc_other {s : State} {v : Byte} {k : Nat} (lcdc : k ≠ offLCDC) (ly : k ≠ offLY) :
    Memory.read (writeLcdc s v).io k = Memory.read s.io k := by
  have stored : Memory.read (s.setIo offLCDC v).io k = Memory.read s.io k := read_setIo_other lcdc
  have cleared : Memory.read ((s.setIo offLCDC v).setIo offLY 0).io k = Memory.read s.io k :=
    (read_setIo_other ly).trans stored
  unfold writeLcdc displayEnable
  dsimp only
  split
  · exact cleared
  · split
    · rw [schedPush_io]
      exact cleared
    · exact stored

/-- What the display controller changes is read in its registers and, by the locks, in video RAM and OAM. -/
theorem OnlyDisplay.busRead_eq {s t : State} {b : Word} (only : OnlyDisplay s t)
    (vram : ¬(0x8000 ≤ b.toNat ∧ b.toNat ≤ 0x9FFF)) (oam : ¬(0xFE00 ≤ b.toNat ∧ b.toNat ≤ 0xFE9F))
    (io : 0xFF00 ≤ b.toNat → b.toNat ≤ 0xFF7F → ioRead t (b.toNat - 0xFF00) = ioRead s (b.toNat - 0xFF00)) :
    busRead t b = busRead s b := by
  have alike : ReadsAlike s { s with io := t.io, mode := t.mode, wlc := t.wlc, bgidx := t.bgidx, fb := t.fb
                                     entries := t.entries, modelFault := t.modelFault } b :=
    { vramLocked := fun h1 h2 => absurd ⟨h1, h2⟩ vram, oamLocked := fun h1 h2 => absurd ⟨h1, h2⟩ oam
      io := only ▸ io }
  rw [only]
  exact alike.busRead_eq

/-- What the write of LCDC changes of what is read elsewhere: STAT, LY and what the locks hide. -/
theorem busRead_writeLcdc_other {s : State} {b : Word} (v : Byte) (lcdc : b ≠ 0xFF40) (stat : b ≠ 0xFF41) (ly : b ≠ 0xFF44)
    (vram : ¬(0x8000 ≤ b.toNat ∧ b.toNat ≤ 0x9FFF)) (oam : ¬(0xFE00 ≤ b.toNat ∧ b.toNat ≤ 0xFE9F)) :
    busRead (writeLcdc s v) b = busRead s b := by
  refine (writeLcdc_only s v).busRead_eq vram oam fun h1 h2 => ?_
  have offset {k : Nat} (e : b.toNat - 0xFF00 = k) : b = BitVec.ofNat 16 (0xFF00 + k) :=
    BitVec.eq_of_toNat_eq (by rw [BitVec.toNat_ofNat]; omega)
  have byte := read_writeLcdc_other (s := s) (v := v) (mt offset lcdc) (mt offset ly)
  exact ioRead_congr (writeLcdc_sameOffBus s v).pressed byte fun e => absurd (offset e) stat

/-- What a store to an I/O register changes of what is read elsewhere: LYC and LCDC what the display shows in STAT and LY and what
it locks, the copy register OAM, the boot register the overlay. -/
theorem busRead_ioWrite_other {s : State} {off : Nat} {b : Word} (v : Byte) (other : b.toNat ≠ 0xFF00 + off)
    (lyc : off = offLYC → b ≠ 0xFF41) (dma : off = offDMA → ¬(0xFE00 ≤ b.toNat ∧ b.toNat ≤ 0xFE9F))
    (boot : off = offBOOT → 0x0100 ≤ b.toNat)
    (lcdc : off = offLCDC → b ≠ 0xFF41 ∧ b ≠ 0xFF44 ∧ ¬(0x8000 ≤ b.toNat ∧ b.toNat ≤ 0x9FFF)
      ∧ ¬(0xFE00 ≤ b.toNat ∧ b.toNat ≤ 0xFE9F)) :
    busRead (ioWrite s off v) b = busRead s b := by
  have stored (w : Byte) (notLcdc : off ≠ offLCDC) (notLy : off ≠ offLY) : busRead (s.setIo off w) b = busRead s b :=
    busRead_setIo_other notLcdc notLy other lyc
  unfold ioWrite
  split
  next p1 =>
    subst p1
    exact stored _ (by decide) (by decide)
  split
  next div =>
    subst div
    exact stored _ (by decide) (by decide)
  split
  next isLcdc =>
    obtain ⟨stat, ly, vram, oam⟩ := lcdc isLcdc
    subst isLcdc
    exact busRead_writeLcdc_other v (fun e => other (by rw [e]; rfl)) stat ly vram oam
  next notLcdc =>
  split
  next stat =>
    subst stat
    exact stored _ (by decide) (by decide)
  split
  next => rfl
  next notLy =>
  split
  next isDma =>
    subst isDma
    rw [oamCopy_eq, busRead_withOam _ fun h1 h2 => absurd ⟨h1, h2⟩ (dma rfl)]
    exact stored v notLcdc notLy
  split
  next isBoot =>
    subst isBoot
    have unmapped : ReadsAlike (s.setIo offBOOT v) { s.setIo offBOOT v with bootActive := false } b :=
      { overlay := fun low => absurd (boot rfl) (by omega) }
    exact unmapped.busRead_eq.trans (stored v notLcdc notLy)
  next => exact stored v notLcdc notLy

/-! The OAM copy (R81). -/

theorem busWrite_dma (s : State) (v : Byte) : busWrite s 0xFF46 v = oamCopy (s.setIo offDMA v) v := by
  have offset : (0xFF46 : Word).toNat - 0xFF00 = offDMA := by decide
  rw [busWrite_io (by decide) (by decide), offset, ioWrite]
  iterate 5 rw [if_neg (by decide)]
  rw [if_pos rfl]

/-- The source address of byte `i` of the copy. -/
theorem oamCopySource_toNat (v : Byte) {i : Nat} (h : i < 160) :
    (joinBytes v 0 + BitVec.ofNat 16 i).toNat = 256 * v.toNat + i := by
  have page : (joinBytes v 0).toNat = 256 * v.toNat := joinBytes_toNat v 0
  have top := v.isLt
  rw [BitVec.toNat_add, BitVec.toNat_ofNat, page]
  omega

/-- After the first `n` bytes of the copy those bytes hold their sources, as read before it, and the others what they held: a source
in OAM is the byte that it is copied to. -/
theorem oamCopy_first {s : State} (w : Memory.wf oamSize s.oam = true) (v : Byte) {n : Nat} (h : n ≤ 160) :
    ∃ m, (List.range n).foldl (oamCopyByte v) s = { s with oam := m } ∧ Memory.wf oamSize m = true
      ∧ ∀ i, Memory.read m i = if i < n then busRead s (joinBytes v 0 + BitVec.ofNat 16 i) else Memory.read s.oam i := by
  induction n with
  | zero => exact ⟨s.oam, rfl, w, fun _ => rfl⟩
  | succ n ih =>
    obtain ⟨m, copied, wf, bytes⟩ := ih (by omega)
    have source := oamCopySource_toNat v (show n < 160 by omega)
    have asBefore : busRead { s with oam := m } (joinBytes v 0 + BitVec.ofNat 16 n) =
        busRead s (joinBytes v 0 + BitVec.ofNat 16 n) := busRead_withOam m fun h1 h2 => by
      have index : (joinBytes v 0 + BitVec.ofNat 16 n).toNat - 0xFE00 = n := by omega
      rw [index, bytes n, if_neg (Nat.lt_irrefl n)]
    refine ⟨Memory.write m n (busRead s (joinBytes v 0 + BitVec.ofNat 16 n)), ?_, Memory.write_wf wf h, fun i => ?_⟩
    · rw [List.range_succ, List.foldl_append, copied, ← asBefore]
      rfl
    · by_cases last : i = n
      · rw [last, Memory.read_write_same wf, if_pos (Nat.lt_succ_self n)]
      · rw [Memory.read_write_other last, bytes i]
        exact ite_congr (propext (by omega)) (fun _ => rfl) fun _ => rfl

end Sys2Proof.Machine

open Sys2Proof Sys2Proof.Machine

/-- Settles O36: a store to an I/O address is `ioWrite` at its offset. -/
theorem ioStoreFrame : Obligations.IoStoreFrame := by
  intro s a b v h1 h2 apart lyc dma boot lcdc
  have other : b.toNat ≠ a.toNat := fun same => apart (BitVec.eq_of_toNat_eq same.symm)
  have named {off : Nat} (e : a.toNat - 0xFF00 = off) : a = BitVec.ofNat 16 (0xFF00 + off) :=
    BitVec.eq_of_toNat_eq (by rw [BitVec.toNat_ofNat]; omega)
  rw [busWrite_io h1 h2]
  exact busRead_ioWrite_other v (by omega) (fun e => lyc (named e)) (fun e => dma (named e)) (fun e => boot (named e))
    fun e => lcdc (named e)

/-- Settles O41: the whole copy is its first 160 bytes, taken after the register has its byte. -/
theorem oamCopyEffect : Obligations.OamCopyEffect := by
  intro s v canonical
  obtain ⟨m, copied, -, bytes⟩ := oamCopy_first (s := s.setIo offDMA v) canonical.oam v (Nat.le_refl 160)
  have whole : busWrite s 0xFF46 v = { s.setIo offDMA v with oam := m } := (busWrite_dma s v).trans copied
  rw [whole]
  exact ⟨⟨m, rfl⟩, fun i h => (bytes i).trans (if_pos h)⟩

end

section
/-! PROOFS. The cartridge below 0x8000: what the ROM windows read and what a store there does to the bank registers (O37, O43). -/

namespace Sys2Proof.Machine

/-! What the ROM windows read. -/

/-- The lower window of a banked cartridge is bank 0 (R115, R119, R123, R127). -/
theorem cartReadRom_lower {cfg : Config} {cart : Cartridge} {a : Nat} (banked : cart ≠ .noMbc) (h : a ≤ 0x3FFF) :
    cartReadRom cfg cart a = romByte cfg 0 a 0 := by
  cases cart with
  | noMbc => exact absurd rfl banked
  | mbc1 _ | mbc2 _ | mbc3 _ | mbc5 _ => simp only [cartReadRom, romTarget, if_pos h, romByte]

/-- The upper window of a banked cartridge is the bank of its registers. -/
theorem cartReadRom_upper {cfg : Config} {cart : Cartridge} {a : Nat} (banked : cart ≠ .noMbc) (h : 0x4000 ≤ a) :
    cartReadRom cfg cart a = romByte cfg (switchedBank cfg cart) a 0x4000 := by
  have upper : ¬a ≤ 0x3FFF := by omega
  cases cart with
  | noMbc => exact absurd rfl banked
  | mbc1 _ | mbc2 _ | mbc3 _ | mbc5 _ => simp only [cartReadRom, romTarget, if_neg upper, romByte]

/-- NoMBC reads its image, and 0xFF past the end of it (R110). -/
theorem cartReadRom_noMbc (cfg : Config) (a : Nat) :
    cartReadRom cfg .noMbc a = if a < cfg.romLength then Memory.read cfg.rom a else 0xFF := by
  by_cases inside : a < cfg.romLength
  · simp only [cartReadRom, romTarget, if_pos inside]
  · simp only [cartReadRom, romTarget, if_neg inside]

/-- No store to the registers is seen in the lower window. -/
theorem cartReadRom_cartWriteRegs_lower (cfg : Config) (cart : Cartridge) (k : Nat) (v : Byte) {a : Nat} (h : a ≤ 0x3FFF) :
    cartReadRom cfg (cartWriteRegs cfg cart k v) a = cartReadRom cfg cart a := by
  cases cart with
  | noMbc => rfl
  | mbc1 _ | mbc2 _ | mbc3 _ | mbc5 _ => simp only [cartWriteRegs, cartReadRom, romTarget, if_pos h]

/-- The mask of R102, with the shift as a power. -/
theorem romMask_eq (cfg : Config) : romMask cfg =
    2 * 2 ^ (if (headerByte cfg 0x148).toNat ≤ 8 then (headerByte cfg 0x148).toNat else 8) - 1 :=
  congrArg (· - 1) (Nat.shiftLeft_eq 2 _)

theorem headerByte_toNat (cfg : Config) (off : Nat) :
    (headerByte cfg off).toNat = if off < cfg.romLength then (Memory.read cfg.rom off).toNat else 0 := by
  unfold headerByte
  split <;> rfl

/-- The two registers of MBC1 do not overlap in its bank number (R114). -/
theorem mbc1RomBank_eq (cfg : Config) (r : Mbc1) :
    mbc1RomBank cfg r = ((if r.mode then 0 else 32 * r.bank2.toNat) + r.bank1.toNat) &&& romMask cfg := by
  unfold mbc1RomBank
  congr 1
  cases r.mode with
  | true => simp
  | false =>
    have low : r.bank1.toNat < 2 ^ 5 := r.bank1.isLt
    show r.bank2.toNat <<< 5 ||| r.bank1.toNat = 32 * r.bank2.toNat + r.bank1.toNat
    rw [← Nat.shiftLeft_add_eq_or_of_lt low, Nat.shiftLeft_eq]
    omega

/-! The bytes that the registers take. -/

theorem forceOne_toNat {w : Nat} (b : BitVec (w + 1)) : (forceOne b).toNat = if b.toNat = 0 then 1 else b.toNat := by
  have zero : b = 0 ↔ b.toNat = 0 := BitVec.toNat_inj.symm
  unfold forceOne
  by_cases e : b = 0
  · rw [if_pos e, if_pos (zero.mp e)]
    simp
  · rw [if_neg e, if_neg (mt zero.mpr e)]

theorem lowBits_toNat {w : Nat} (v : BitVec w) (n : Nat) : (v.extractLsb' 0 n).toNat = v.toNat % 2 ^ n := by
  rw [BitVec.extractLsb'_toNat, Nat.shiftRight_zero]

/-- The low eight bits of MBC5's bank number are replaced (R126). -/
theorem mbc5_low_toNat (bank : BitVec 9) (v : Byte) :
    (bank.extractLsb' 8 1 ++ v : BitVec 9).toNat = 256 * (bank.toNat / 256) + v.toNat := by
  have top := bank.isLt
  show (bank.extractLsb' 8 1 ++ v : BitVec (1 + 8)).toNat = _
  rw [BitVec.toNat_append, ← Nat.shiftLeft_add_eq_or_of_lt v.isLt, Nat.shiftLeft_eq, BitVec.extractLsb'_toNat,
    Nat.shiftRight_eq_div_pow]
  omega

/-- The ninth bit of MBC5's bank number is replaced (R126). -/
theorem mbc5_high_toNat (bank : BitVec 9) (v : Byte) :
    (v.extractLsb' 0 1 ++ bank.extractLsb' 0 8 : BitVec 9).toNat = 256 * (v.toNat % 2) + bank.toNat % 256 := by
  show (v.extractLsb' 0 1 ++ bank.extractLsb' 0 8 : BitVec (1 + 8)).toNat = _
  rw [BitVec.toNat_append, ← Nat.shiftLeft_add_eq_or_of_lt (bank.extractLsb' 0 8).isLt, Nat.shiftLeft_eq, lowBits_toNat,
    lowBits_toNat]
  omega

theorem bitOf_zero (v : Byte) : bitOf v 0 = decide (v.toNat % 2 = 1) := by
  rw [bitOf, BitVec.getLsbD, Nat.testBit_zero]

/-- Address bit 8, which tells MBC2's two registers apart (R118). -/
theorem testBit_eight (a : Nat) : a.testBit 8 = decide (a / 256 % 2 = 1) := Nat.testBit_eq_decide_div_mod_eq

/-! The register that an address below 0x8000 names, variant by variant. -/

section
variable {cfg : Config} {a : Nat} {v : Byte}

theorem mbc1Write_gate {r : Mbc1} (h : a ≤ 0x1FFF) : mbc1Write cfg r a v = { r with ramEnable := mbc1Opens cfg v } :=
  if_pos h

theorem mbc1Write_bank1 {r : Mbc1} (h1 : 0x2000 ≤ a) (h2 : a ≤ 0x3FFF) :
    mbc1Write cfg r a v = { r with bank1 := forceOne (v.extractLsb' 0 5) } := by
  rw [mbc1Write, if_neg (by omega), if_pos h2]

theorem mbc1Write_bank2 {r : Mbc1} (h1 : 0x4000 ≤ a) (h2 : a ≤ 0x5FFF) :
    mbc1Write cfg r a v = { r with bank2 := v.extractLsb' 0 2 } := by
  rw [mbc1Write, if_neg (by omega), if_neg (by omega), if_pos h2]

theorem mbc1Write_mode {r : Mbc1} (h : 0x6000 ≤ a) : mbc1Write cfg r a v = { r with mode := bitOf v 0 } := by
  rw [mbc1Write, if_neg (by omega), if_neg (by omega), if_neg (by omega)]

theorem mbc2Write_gate {r : Mbc2} (h : a ≤ 0x3FFF) (bit : a / 256 % 2 = 0) :
    mbc2Write r a v = { r with ramEnable := nibbleOpens v } := by
  rw [mbc2Write, if_pos h, if_neg (by rw [testBit_eight, bit]; decide)]

theorem mbc2Write_bank {r : Mbc2} (h : a ≤ 0x3FFF) (bit : a / 256 % 2 = 1) :
    mbc2Write r a v = { r with romBank := forceOne v } := by
  rw [mbc2Write, if_pos h, if_pos (by rw [testBit_eight, bit]; rfl)]

theorem mbc2Write_none {r : Mbc2} (h : 0x4000 ≤ a) : mbc2Write r a v = r := if_neg (by omega)

theorem mbc3Write_gate {r : Mbc3} (h : a ≤ 0x1FFF) : mbc3Write r a v = { r with ramEnable := nibbleOpens v } := if_pos h

theorem mbc3Write_romBank {r : Mbc3} (h1 : 0x2000 ≤ a) (h2 : a ≤ 0x3FFF) :
    mbc3Write r a v = { r with romBank := forceOne (v.extractLsb' 0 7) } := by
  rw [mbc3Write, if_neg (by omega), if_pos h2]

theorem mbc3Write_ramBank {r : Mbc3} (h1 : 0x4000 ≤ a) (h2 : a ≤ 0x5FFF) :
    mbc3Write r a v = if v.toNat < 4 then { r with ramBank := v.extractLsb' 0 2 } else r := by
  rw [mbc3Write, if_neg (by omega), if_neg (by omega), if_pos h2]
  rfl

theorem mbc3Write_none {r : Mbc3} (h : 0x6000 ≤ a) : mbc3Write r a v = r := by
  rw [mbc3Write, if_neg (by omega), if_neg (by omega), if_neg (by omega)]

theorem mbc5Write_gate {r : Mbc5} (h : a ≤ 0x1FFF) : mbc5Write r a v = { r with ramEnable := nibbleOpens v } := if_pos h

theorem mbc5Write_romLow {r : Mbc5} (h1 : 0x2000 ≤ a) (h2 : a ≤ 0x2FFF) :
    mbc5Write r a v = { r with romBank := r.romBank.extractLsb' 8 1 ++ v } := by
  rw [mbc5Write, if_neg (by omega), if_pos h2]

theorem mbc5Write_romHigh {r : Mbc5} (h1 : 0x3000 ≤ a) (h2 : a ≤ 0x3FFF) :
    mbc5Write r a v = { r with romBank := v.extractLsb' 0 1 ++ r.romBank.extractLsb' 0 8 } := by
  rw [mbc5Write, if_neg (by omega), if_neg (by omega), if_pos h2]

theorem mbc5Write_ramBank {r : Mbc5} (h1 : 0x4000 ≤ a) (h2 : a ≤ 0x5FFF) :
    mbc5Write r a v = { r with ramBank := v.extractLsb' 0 4 } := by
  rw [mbc5Write, if_neg (by omega), if_neg (by omega), if_neg (by omega), if_pos h2]

theorem mbc5Write_none {r : Mbc5} (h : 0x6000 ≤ a) : mbc5Write r a v = r := by
  rw [mbc5Write, if_neg (by omega), if_neg (by omega), if_neg (by omega), if_neg (by omega)]

end

/-! The same on the bus: reads and stores of a machine with this cartridge. -/

section
variable {s : State} {a b : Word} {v : Byte}

/-- The switched window of a banked cartridge (R115, R119, R123, R127). -/
theorem busRead_switched (h1 : 0x4000 ≤ a.toNat) (h2 : a.toNat ≤ 0x7FFF) {cart : Cartridge} (inserted : s.cart = cart)
    (banked : cart ≠ .noMbc) : busRead s a = romByte s.cfg (switchedBank s.cfg cart) a.toNat 0x4000 := by
  rw [busRead_rom h2 (.inr (by omega)), inserted, cartReadRom_upper banked h1]

/-- A store below 0x8000 that leaves the cartridge `c`. -/
theorem busWrite_regs (h : b.toNat ≤ 0x7FFF) {c : Cartridge} (after : cartWriteRegs s.cfg s.cart b.toNat v = c) :
    busWrite s b v = { s with cart := c } := by
  rw [busWrite_rom h, after]

/-- A store below 0x8000 that leaves the cartridge as it was. -/
theorem busWrite_regs_none (h : b.toNat ≤ 0x7FFF) (same : cartWriteRegs s.cfg s.cart b.toNat v = s.cart) :
    busWrite s b v = s := busWrite_regs h same

theorem cartWriteRegs_mbc1 {r : Mbc1} (k : Nat) (inserted : s.cart = .mbc1 r) :
    cartWriteRegs s.cfg s.cart k v = .mbc1 (mbc1Write s.cfg r k v) := by rw [inserted, cartWriteRegs]

theorem cartWriteRegs_mbc2 {r : Mbc2} (k : Nat) (inserted : s.cart = .mbc2 r) :
    cartWriteRegs s.cfg s.cart k v = .mbc2 (mbc2Write r k v) := by rw [inserted, cartWriteRegs]

theorem cartWriteRegs_mbc3 {r : Mbc3} (k : Nat) (inserted : s.cart = .mbc3 r) :
    cartWriteRegs s.cfg s.cart k v = .mbc3 (mbc3Write r k v) := by rw [inserted, cartWriteRegs]

theorem cartWriteRegs_mbc5 {r : Mbc5} (k : Nat) (inserted : s.cart = .mbc5 r) :
    cartWriteRegs s.cfg s.cart k v = .mbc5 (mbc5Write r k v) := by rw [inserted, cartWriteRegs]

end

end Sys2Proof.Machine

open Sys2Proof Sys2Proof.Machine

/-- Settles O37: the store changes `cart`, which no read outside the two windows of the cartridge sees. -/
theorem bankStoreFrame : Obligations.BankStoreFrame := by
  intro s a b v h
  refine ⟨⟨_, busWrite_rom h⟩, fun switched ram => ?_⟩
  rw [busWrite_rom h]
  exact ReadsAlike.busRead_eq
    { rom := fun _ => cartReadRom_cartWriteRegs_lower s.cfg s.cart a.toNat v (by omega)
      cartRam := fun h1 h2 => absurd ⟨h1, h2⟩ ram }

/-- Settles O43: the reads by the bank that the window selects, the writes register by register. -/
theorem bankSelectsWindow : Obligations.BankSelectsWindow := by
  intro s a b v ha hb image code mask one leaves
  refine ⟨fun mapped low => busRead_overlay low mapped, fun unmapped plain => ?_, fun unmapped banked lower => ?_,
    fun upper => ?_, fun plain => ?_, fun r inserted => ?_, fun r inserted => ?_, fun r inserted => ?_, fun r inserted => ?_⟩
  · rw [busRead_rom ha unmapped, plain, cartReadRom_noMbc]
  · rw [busRead_rom ha unmapped, cartReadRom_lower banked lower]
    rfl
  · have switched {cart : Cartridge} (inserted : s.cart = cart) (banked : cart ≠ .noMbc) :=
      busRead_switched upper ha inserted banked
    refine ⟨fun r inserted => ?_, fun r inserted => (switched inserted nofun).trans rfl,
      fun r inserted => (switched inserted nofun).trans rfl, fun r inserted => (switched inserted nofun).trans rfl⟩
    rw [switched inserted nofun, switchedBank, mbc1RomBank_eq, romMask_eq, headerByte_toNat]
    rfl
  · exact busWrite_regs_none hb (by rw [plain, cartWriteRegs])
  · have after := cartWriteRegs_mbc1 (v := v) b.toNat inserted
    refine ⟨fun h => ⟨_, busWrite_regs hb (after.trans (by rw [mbc1Write_gate h]))⟩,
      fun h1 h2 => ⟨_, ?_, busWrite_regs hb (after.trans (by rw [mbc1Write_bank1 h1 h2]))⟩,
      fun h1 h2 => ⟨_, lowBits_toNat v 2, busWrite_regs hb (after.trans (by rw [mbc1Write_bank2 h1 h2]))⟩,
      fun h => busWrite_regs hb (after.trans (by rw [mbc1Write_mode h, bitOf_zero]))⟩
    exact (forceOne_toNat _).trans (congrArg one (lowBits_toNat v 5))
  · have after := cartWriteRegs_mbc2 (v := v) b.toNat inserted
    refine ⟨fun h bit => ⟨_, busWrite_regs hb (after.trans (by rw [mbc2Write_gate h bit]))⟩,
      fun h bit => ⟨_, forceOne_toNat v, busWrite_regs hb (after.trans (by rw [mbc2Write_bank h bit]))⟩,
      fun h => busWrite_regs_none hb (after.trans (by rw [mbc2Write_none h, inserted]))⟩
  · have after := cartWriteRegs_mbc3 (v := v) b.toNat inserted
    refine ⟨fun h => ⟨_, busWrite_regs hb (after.trans (by rw [mbc3Write_gate h]))⟩,
      fun h1 h2 => ⟨_, ?_, busWrite_regs hb (after.trans (by rw [mbc3Write_romBank h1 h2]))⟩,
      fun h1 h2 => ⟨fun small => ⟨_, ?_, busWrite_regs hb (after.trans (by rw [mbc3Write_ramBank h1 h2, if_pos small]))⟩,
        fun large => busWrite_regs_none hb (after.trans ?_)⟩,
      fun h => busWrite_regs_none hb (after.trans (by rw [mbc3Write_none h, inserted]))⟩
    · exact (forceOne_toNat _).trans (congrArg one (lowBits_toNat v 7))
    · exact (lowBits_toNat v 2).trans (Nat.mod_eq_of_lt small)
    · rw [mbc3Write_ramBank h1 h2, if_neg (Nat.not_lt.mpr large), inserted]
  · have after := cartWriteRegs_mbc5 (v := v) b.toNat inserted
    exact ⟨fun h => ⟨_, busWrite_regs hb (after.trans (by rw [mbc5Write_gate h]))⟩,
      fun h1 h2 => ⟨_, mbc5_low_toNat r.romBank v, busWrite_regs hb (after.trans (by rw [mbc5Write_romLow h1 h2]))⟩,
      fun h1 h2 => ⟨_, mbc5_high_toNat r.romBank v, busWrite_regs hb (after.trans (by rw [mbc5Write_romHigh h1 h2]))⟩,
      fun h1 h2 => ⟨_, lowBits_toNat v 4, busWrite_regs hb (after.trans (by rw [mbc5Write_ramBank h1 h2]))⟩,
      fun h => busWrite_regs_none hb (after.trans (by rw [mbc5Write_none h, inserted]))⟩

end

section
/-! PROOFS. The saved stream and the battery file, byte by byte (O53). -/

namespace Sys2Proof.Machine

/-- The dump of an array holds the byte of each offset below its size. -/
theorem Memory.getElem?_bytes {size k : Nat} (m : Memory) (h : k < size) :
    (Memory.bytes size m)[k]? = some (Memory.read m k) := by
  rw [Memory.bytes, List.getElem?_map, List.getElem?_range h]
  rfl

/-- In a stream that begins with the dump of an array, what follows starts at that array's size. -/
theorem Memory.getElem?_bytes_append (size k : Nat) (m : Memory) (rest : List Byte) :
    (Memory.bytes size m ++ rest)[k]? = if k < size then some (Memory.read m k) else rest[k - size]? := by
  by_cases h : k < size
  · rw [if_pos h, List.getElem?_append_left (by simpa using h), Memory.getElem?_bytes m h]
  · rw [if_neg h, List.getElem?_append_right (by simpa using h), Memory.length_bytes]

theorem Memory.take_bytes_append (size : Nat) (m : Memory) (rest : List Byte) :
    (Memory.bytes size m ++ rest).take size = Memory.bytes size m := List.take_left' (Memory.length_bytes size m)

theorem Memory.drop_bytes_append (size : Nat) (m : Memory) (rest : List Byte) :
    (Memory.bytes size m ++ rest).drop size = rest := List.drop_left' (Memory.length_bytes size m)

/-- The stream as the first array and the rest, five times over. -/
theorem saveState_eq (s : State) : saveState s = Memory.bytes wramSize s.wram ++ (Memory.bytes ioSize s.io
    ++ (Memory.bytes hramSize s.hram ++ (s.ie :: (Memory.bytes vramSize s.vram ++ Memory.bytes oamSize s.oam)))) := by
  simp only [saveState, List.append_assoc, List.cons_append, List.nil_append]

theorem length_saveState (s : State) : (saveState s).length = saveStateSize := by
  simp only [saveState, List.length_append, Memory.length_bytes, List.length_singleton]
  rfl

/-- The byte at each offset of the stream (R95). -/
theorem getElem?_saveState (s : State) {k : Nat} (h : k < 16800) : (saveState s)[k]? = some (
    if k < 8192 then Memory.read s.wram k
    else if k < 8320 then Memory.read s.io (k - 8192)
    else if k < 8447 then Memory.read s.hram (k - 8320)
    else if k = 8447 then s.ie
    else if k < 16640 then Memory.read s.vram (k - 8448)
    else Memory.read s.oam (k - 16640)) := by
  rw [saveState_eq]
  simp only [Memory.getElem?_bytes_append, List.getElem?_cons, wramSize, ioSize, hramSize, vramSize, Nat.sub_sub, apply_ite some]
  refine ite_congr rfl (fun _ => rfl) fun _ => ?_
  refine ite_congr (propext (by omega)) (fun _ => rfl) fun _ => ?_
  refine ite_congr (propext (by omega)) (fun _ => rfl) fun _ => ?_
  refine ite_congr (propext (by omega)) (fun _ => rfl) fun _ => ?_
  refine ite_congr (propext (by omega)) (fun _ => rfl) fun _ => ?_
  exact Memory.getElem?_bytes s.oam (by unfold oamSize; omega)

/-- Loading a saved stream puts the six arrays back (R95, R464). -/
theorem loadState_saveState {s : State} (canonical : MemoriesCanonical s) (u : State) : loadState (saveState s) u =
    { u with wram := s.wram, io := s.io, hram := s.hram, ie := s.ie, vram := s.vram, oam := s.oam } := by
  have last : (Memory.bytes oamSize s.oam).take oamSize = Memory.bytes oamSize s.oam :=
    List.take_of_length_le (Nat.le_of_eq (Memory.length_bytes oamSize s.oam))
  rw [loadState, if_pos (length_saveState s), saveState_eq]
  simp only [Memory.take_bytes_append, Memory.drop_bytes_append, List.drop_succ_cons, List.drop_zero, List.headD_cons, last,
    Memory.ofBytes_bytes canonical.wram, Memory.ofBytes_bytes canonical.io, Memory.ofBytes_bytes canonical.hram,
    Memory.ofBytes_bytes canonical.vram, Memory.ofBytes_bytes canonical.oam]

end Sys2Proof.Machine

open Sys2Proof Sys2Proof.Machine

/-- Settles O53: the stream is the six dumps in order (`saveState_eq`), and a canonical array is rebuilt from its dump. -/
theorem savestateRoundTrip : Obligations.SavestateRoundTrip := fun s u =>
  ⟨fun _ => getElem?_saveState s, fun canonical => ⟨length_saveState s, loadState_saveState canonical u⟩, rfl, rfl,
    Memory.length_bytes _ _, fun _ => Memory.getElem?_bytes s.cartRam⟩

end

section
/-! PROOFS. The step's frame: what no store and so no machine step changes, the parameters and a cleared overlay (O32). -/

namespace Sys2Proof.Machine

theorem OnlyDisplay.bootActive {s t : State} (h : OnlyDisplay s t) : t.bootActive = s.bootActive := by
  unfold OnlyDisplay at h
  rw [h]

/-- A store to an I/O register never maps the overlay (R77): the boot register unmaps it, the others leave it. -/
theorem ioWrite_keeps_unmapped {s : State} {off : Nat} {v : Byte} (unmapped : s.bootActive = false) :
    (ioWrite s off v).bootActive = false := by
  unfold ioWrite
  split; · exact unmapped
  split; · exact unmapped
  split; · exact (writeLcdc_only s v).bootActive.trans unmapped
  split; · exact unmapped
  split; · exact unmapped
  split; · exact (congrArg State.bootActive (oamCopy_eq (s.setIo offDMA v) v)).trans unmapped
  split
  · rfl
  · exact unmapped

/-- No store on the bus maps the overlay: every region but the I/O registers leaves `bootActive` as it is. -/
theorem busWrite_keeps_unmapped {s : State} {a : Word} {v : Byte} (unmapped : s.bootActive = false) :
    (busWrite s a v).bootActive = false := by
  unfold busWrite
  dsimp only
  split; · exact unmapped
  split; · split <;> exact unmapped
  split; · exact unmapped
  split; · exact unmapped
  split; · exact unmapped
  split; · split <;> exact unmapped
  split; · exact unmapped
  split; · exact ioWrite_keeps_unmapped unmapped
  split <;> exact unmapped

theorem stores_keep_unmapped {s : State} (ws : List (Word × Byte)) (unmapped : s.bootActive = false) :
    (s.stores ws).bootActive = false := by
  induction ws generalizing s with
  | nil => exact unmapped
  | cons w ws ih => exact ih (busWrite_keeps_unmapped unmapped)

/-- `CpuStep` never maps the overlay: it is a few stores and the CPU's own part (`cpuStep_shape`). -/
theorem cpuStep_keeps_unmapped {s u : State} (h : cpuStep s = .next u) (unmapped : s.bootActive = false) :
    u.bootActive = false := by
  obtain ⟨v, ws, r, -, rfl | rfl⟩ := cpuStep_shape h
  · exact stores_keep_unmapped ws unmapped
  · exact stores_keep_unmapped (s := s.setIo offIF v) ws unmapped

end Sys2Proof.Machine

open Sys2Proof Sys2Proof.Machine

/-- Settles O32: `CpuStep` keeps both, and the rest of the step (`finishStep_fields`) touches neither. -/
theorem stepKeepsParameters : Obligations.StepKeepsParameters := by
  intro s t h
  obtain ⟨-, -, u, cpu, ⟨-, rfl⟩ | ⟨-, finished⟩⟩ := step_cases h
  · exact ⟨(cpuStep_now_cfg cpu).2, cpuStep_keeps_unmapped cpu⟩
  · obtain ⟨-, -, cfg, boot, -⟩ := finishStep_fields finished
    exact ⟨cfg.trans (cpuStep_now_cfg cpu).2, fun unmapped => boot.trans (cpuStep_keeps_unmapped cpu unmapped)⟩

end

section
/-! PROOFS. LoadROM: the table of cartridge types, the refusals of power-on, and the reset state as its own reset state (O54). -/

namespace Sys2Proof.Machine

/-- The table of R101, group by group, and that it lists no other byte. -/
theorem cartridgeOfType_table (t : Byte) :
    (t.toNat ∈ [0x00, 0x08, 0x09] → cartridgeOfType t = some .noMbc)
      ∧ (t.toNat ∈ [0x01, 0x02, 0x03] → cartridgeOfType t = some (.mbc1 mbc1Reset))
      ∧ (t.toNat ∈ [0x05, 0x06] → cartridgeOfType t = some (.mbc2 mbc2Reset))
      ∧ (t.toNat ∈ [0x0F, 0x10, 0x11, 0x12, 0x13] → cartridgeOfType t = some (.mbc3 mbc3Reset))
      ∧ (t.toNat ∈ [0x19, 0x1A, 0x1B, 0x1C, 0x1D, 0x1E] → cartridgeOfType t = some (.mbc5 mbc5Reset))
      ∧ (cartridgeOfType t = none ↔ t.toNat ∉ [0x00, 0x01, 0x02, 0x03, 0x05, 0x06, 0x08, 0x09, 0x0F, 0x10, 0x11, 0x12, 0x13,
        0x19, 0x1A, 0x1B, 0x1C, 0x1D, 0x1E]) := by
  simp only [List.mem_cons, List.not_mem_nil, or_false, cartridgeOfType]
  refine ⟨fun h => if_pos h, fun h => ?_, fun h => ?_, fun h => ?_, fun h => ?_, ?_⟩
  · rw [if_neg (by omega), if_pos h]
  · rw [if_neg (by omega), if_neg (by omega), if_pos h]
  · rw [if_neg (by omega), if_neg (by omega), if_neg (by omega), if_pos h]
  · rw [if_neg (by omega), if_neg (by omega), if_neg (by omega), if_neg (by omega), if_pos h]
  · repeat' split
    all_goals simp only [reduceCtorEq, true_iff, false_iff]; omega

theorem hostReset_refused {s : State} {r : Refusal} (h : powerOn s.cfg = .refused r) : hostReset s = .refused r := by
  rw [hostReset, h]

theorem powerOn_empty {cfg : Config} (h : cfg.romLength = 0) : powerOn cfg = .refused .emptyRom := if_pos h

theorem powerOn_unknown {cfg : Config} (nonempty : cfg.romLength ≠ 0) (h : cartridgeOfType (headerByte cfg 0x147) = none) :
    powerOn cfg = .refused (.unknownCartridge (headerByte cfg 0x147)) := by
  rw [powerOn, if_neg nonempty, h]

/-- What Reset answers is its own reset state: it has the parameters that it was built from (R462). -/
theorem hostReset_next_self {s t : State} (h : hostReset s = .next t) : hostReset t = .next t := by
  obtain ⟨u, on, rfl⟩ := hostReset_next_iff.mp h
  obtain ⟨-, cart, -, rfl⟩ := powerOn_next_iff.mp on
  refine hostReset_next_iff.mpr ⟨_, ?_, rfl⟩
  rw [resetWith_cfg]
  exact on

end Sys2Proof.Machine

open Sys2Proof Sys2Proof.Machine

/-- Settles O54: LoadROM is Reset at the parameters with the new image, whose type byte is the image's (`headerByte_withRom`). -/
theorem loadRomResult : Obligations.LoadRomResult := by
  intro image saveFile s kind known
  have header := headerByte_withRom s.cfg image saveFile 0x147
  obtain ⟨noMbc, mbc1, mbc2, mbc3, mbc5, unlisted⟩ := cartridgeOfType_table (image.getD 0x147 0)
  refine ⟨fun empty => ?_, fun nonempty unknown => ?_, fun nonempty listed => ?_⟩
  · exact hostReset_refused (powerOn_empty (List.length_eq_zero_iff.mpr empty))
  · have refused := powerOn_unknown (cfg := Config.withRom s.cfg image saveFile) (mt List.length_eq_zero_iff.mp nonempty)
      (header ▸ unlisted.mpr unknown)
    exact hostReset_refused (header ▸ refused)
  · obtain ⟨cart, selected⟩ := Option.ne_none_iff_exists'.mp (mt unlisted.mp (not_not_intro listed))
    have loaded : hostLoadRom image saveFile s =
        .next { resetWith (Config.withRom s.cfg image saveFile) cart with keyInput := s.keyInput } :=
      hostReset_next_iff.mpr ⟨_, powerOn_next_iff.mpr
        ⟨mt List.length_eq_zero_iff.mp nonempty, cart, header ▸ selected, rfl⟩, rfl⟩
    have inserted {c : Cartridge} (group : cartridgeOfType (image.getD 0x147 0) = some c) :
        (resetWith (Config.withRom s.cfg image saveFile) cart).cart = c :=
      (resetWith_cart _ _).trans (Option.some.inj (selected.symm.trans group))
    exact ⟨_, loaded, hostReset_next_self loaded, ⟨Memory.ofBytes image, Memory.read_ofBytes image, resetWith_cfg _ _⟩,
      resetWith_cartRam _ _, rfl, fun h => inserted (noMbc h), fun h => inserted (mbc1 h), fun h => inserted (mbc2 h),
      fun h => inserted (mbc3 h), fun h => inserted (mbc5 h)⟩

end

section
/-! PROOFS. The cartridge RAM window: the bytes that open each gate, the cell that an open window names, and what the window
reads and stores (O44). -/

namespace Sys2Proof.Machine

/-! The bytes that open a gate. -/

theorem nibbleOpens_iff (x : Byte) : nibbleOpens x = true ↔ x.toNat % 16 = 0x0A := by
  have low : (x &&& 0x0F).toNat = x.toNat % 16 := (BitVec.toNat_and x 0x0F).trans (Nat.and_two_pow_sub_one_eq_mod _ 4)
  rw [nibbleOpens, beq_iff_eq, ← BitVec.toNat_inj, low]
  rfl

/-- MBC1 compares the whole byte or its low nibble (R113). -/
theorem mbc1Opens_iff (cfg : Config) (x : Byte) : mbc1Opens cfg x = true ↔
    (cfg.mbc1GateFullByte = true ∧ x = 0x0A) ∨ (cfg.mbc1GateFullByte = false ∧ x.toNat % 16 = 0x0A) := by
  unfold mbc1Opens
  cases cfg.mbc1GateFullByte with
  | true => simp
  | false => simp [nibbleOpens_iff]

/-! The cell that the window names, variant by variant. -/

section
variable (cfg : Config) (a : Nat)

/-- MBC1 by its size code: no RAM, one mirrored 2 KiB, one 8 KiB bank, or the bank of mode 1 (R116). -/
theorem cartRamTarget_mbc1 (r : Mbc1) {size : Nat} (code : (headerByte cfg 0x149).toNat = size) :
    cartRamTarget cfg (.mbc1 r) a = if r.ramEnable = true ∧ size ≠ 0 then some (
      if size = 1 then (a - 0xA000) % 0x800 % cfg.cartRamBytes
      else ramOff cfg (if size ≠ 2 ∧ r.mode = true then r.bank2.toNat else 0) a) else none := by
  have mirror : (a - 0xA000) &&& 0x07FF = (a - 0xA000) % 0x800 := Nat.and_two_pow_sub_one_eq_mod _ 11
  have unusable : (!r.ramEnable || size == 0) = true ↔ ¬(r.ramEnable = true ∧ size ≠ 0) := by
    simp [Classical.or_iff_not_imp_left]
  simp only [cartRamTarget, code, mirror, mbc1RamBank]
  by_cases usable : r.ramEnable = true ∧ size ≠ 0
  · rw [if_pos usable, if_neg (mt unusable.mp (not_not_intro usable))]
    by_cases one : size = 1
    · rw [if_pos one, if_pos one]
    by_cases two : size = 2
    · rw [if_neg one, if_neg one, if_pos two, if_neg fun banks => banks.1 two]
    · rw [if_neg one, if_neg one, if_neg two]
      simp only [two, ne_eq, not_false_eq_true, true_and]
  · rw [if_pos (unusable.mpr usable), if_neg usable]

/-- MBC2's 512 cells are mirrored through the window (R120). -/
theorem cartRamTarget_mbc2 (r : Mbc2) : cartRamTarget cfg (.mbc2 r) a =
    if r.ramEnable = true then some ((a - 0xA000) % 0x200 % cfg.cartRamBytes) else none := by
  have mirror : (a - 0xA000) &&& 0x01FF = (a - 0xA000) % 0x200 := Nat.and_two_pow_sub_one_eq_mod _ 9
  rw [cartRamTarget, mirror]

theorem cartRamTarget_mbc3 (r : Mbc3) : cartRamTarget cfg (.mbc3 r) a =
    if r.ramEnable = true then some (ramOff cfg r.ramBank.toNat a) else none := rfl

theorem cartRamTarget_mbc5 (r : Mbc5) : cartRamTarget cfg (.mbc5 r) a =
    if r.ramEnable = true then some (ramOff cfg r.ramBank.toNat a) else none := rfl

end

/-! What MBC2 keeps of a byte. -/

theorem clear_or_mask {n : Nat} (v mask : BitVec n) : (v &&& ~~~mask) ||| mask = v ||| mask := by
  ext i inside
  simp only [BitVec.getElem_or, BitVec.getElem_and, BitVec.getElem_not]
  cases mask[i] <;> simp

/-- MBC2 stores the low nibble and reads ones above it (R120). -/
theorem cartRamReadValue_writeValue_mbc2 (r : Mbc2) (v : Byte) :
    cartRamReadValue (.mbc2 r) (cartRamWriteValue (.mbc2 r) v) = v ||| 0xF0 := clear_or_mask v 0xF0

/-! The window of the machine `t`, which is `s` with its registers written. -/

section
variable {s t : State} {cart : Cartridge} (after : t = { s with cart := cart })
include after

/-- A further store to the registers. -/
theorem busWrite_regs_again {k : Word} {w : Byte} (h : k.toNat ≤ 0x7FFF) :
    busWrite t k w = { s with cart := cartWriteRegs s.cfg cart k.toNat w } := by
  rw [after, busWrite_rom h]

variable {a : Word} (v : Byte) (h1 : 0xA000 ≤ a.toNat) (h2 : a.toNat ≤ 0xBFFF)
include h1 h2

/-- An open window reads and stores the cell that it names (R105). -/
theorem cartRamWindow_names {i : Nat} (cell : cartRamTarget s.cfg cart a.toNat = some i) :
    busRead t a = cartRamReadValue cart (Memory.read s.cartRam i)
      ∧ busWrite t a v = { t with cartRam := Memory.write s.cartRam i (cartRamWriteValue cart v) } := by
  rw [after, busRead_cartRam h1 h2, busWrite_cartRam h1 h2]
  simp only [cartReadRam, cartWriteRam, cell, and_self]

/-- A byte stored in an open window reads back as the cartridge keeps it. -/
theorem cartRamWindow_readsBack (canonical : MemoriesCanonical s) {i : Nat}
    (cell : cartRamTarget s.cfg cart a.toNat = some i) :
    busRead (busWrite t a v) a = cartRamReadValue cart (cartRamWriteValue cart v) := by
  have same : MemoriesCanonical { s with cart := cart } :=
    ⟨canonical.ramNonempty, canonical.wram, canonical.hram, canonical.io, canonical.vram, canonical.oam, canonical.cartRam⟩
  rw [after, busRead_busWrite_cartRam same h1 h2]
  simp only [cell]

/-- A closed window reads 0xFF and stores nothing (R106). -/
theorem cartRamWindow_shut (closed : cartRamTarget s.cfg cart a.toNat = none) :
    busRead t a = 0xFF ∧ busWrite t a v = t := by
  rw [after, busRead_cartRam h1 h2, busWrite_cartRam h1 h2]
  simp only [cartReadRam, cartWriteRam, closed, and_self]

end

end Sys2Proof.Machine

open Sys2Proof Sys2Proof.Machine

/-- Settles O44: per variant the registers after the gate's byte and after the bank's, and the cell that the window then names. -/
theorem cartRamGate : Obligations.CartRamGate := by
  intro s a g k x v w canonical h1 h2 k1 k2 gated banked back shut cell mirrored names size nibble
  have kRegs : k.toNat ≤ 0x7FFF := by omega
  have opens : nibbleOpens x = true ↔ nibble := nibbleOpens_iff x
  refine ⟨fun plain gate => ?_, fun r inserted gate => ?_, fun r inserted gate bit => ?_, fun r inserted gate => ?_,
    fun r inserted gate => ?_⟩
  · have same : cartWriteRegs s.cfg s.cart g.toNat x = .noMbc := by rw [plain, cartWriteRegs]
    have gatedIs : gated = { s with cart := .noMbc } := busWrite_regs gate same
    have bankedIs : banked = { s with cart := .noMbc } := busWrite_regs_again gatedIs kRegs
    exact ⟨busWrite_regs_none gate (same.trans plain.symm), cartRamWindow_readsBack gatedIs v h1 h2 canonical rfl,
      cartRamWindow_names bankedIs v h1 h2 rfl⟩
  · intro opens
    have opens : mbc1Opens s.cfg x = true ↔ opens := mbc1Opens_iff s.cfg x
    have gatedIs : gated = { s with cart := .mbc1 { r with ramEnable := mbc1Opens s.cfg x } } :=
      busWrite_regs (by omega) (by rw [cartWriteRegs_mbc1 _ inserted, mbc1Write_gate gate])
    have bankedIs : banked = { s with
        cart := .mbc1 { r with ramEnable := mbc1Opens s.cfg x, bank2 := w.extractLsb' 0 2 } } :=
      (busWrite_regs_again gatedIs kRegs).trans (by rw [cartWriteRegs, mbc1Write_bank2 k1 k2])
    have target (r : Mbc1) := cartRamTarget_mbc1 s.cfg a.toNat r (headerByte_toNat s.cfg 0x149)
    refine ⟨fun h ram => ?_, fun h => cartRamWindow_shut gatedIs v h1 h2 ((target _).trans (if_neg ?_))⟩
    · have usable : mbc1Opens s.cfg x = true ∧ size ≠ 0 := ⟨opens.mpr h, ram⟩
      refine ⟨cartRamWindow_readsBack gatedIs v h1 h2 canonical ((target _).trans (if_pos usable)),
        cartRamWindow_names bankedIs v h1 h2 ((target _).trans ((if_pos usable).trans ?_))⟩
      rw [lowBits_toNat]
      rfl
    · exact fun usable => h.elim (fun other => other (opens.mp usable.1)) usable.2
  · have gatedIs : gated = { s with cart := .mbc2 { r with ramEnable := nibbleOpens x } } :=
      busWrite_regs (by omega) (by rw [cartWriteRegs_mbc2 _ inserted, mbc2Write_gate gate bit])
    have bankedIs : banked = { s with cart := .mbc2 { r with ramEnable := nibbleOpens x } } :=
      (busWrite_regs_again gatedIs kRegs).trans (by rw [cartWriteRegs, mbc2Write_none k1])
    have target := cartRamTarget_mbc2 s.cfg a.toNat { r with ramEnable := nibbleOpens x }
    refine ⟨fun h => ?_, fun h => cartRamWindow_shut gatedIs v h1 h2 (target.trans (if_neg (mt opens.mp h)))⟩
    have named := target.trans (if_pos (opens.mpr h))
    exact ⟨(cartRamWindow_readsBack gatedIs v h1 h2 canonical named).trans (cartRamReadValue_writeValue_mbc2 _ v),
      cartRamWindow_names bankedIs v h1 h2 named⟩
  · have gatedIs : gated = { s with cart := .mbc3 { r with ramEnable := nibbleOpens x } } :=
      busWrite_regs (by omega) (by rw [cartWriteRegs_mbc3 _ inserted, mbc3Write_gate gate])
    have bankedIs := busWrite_regs_again gatedIs (w := w) kRegs
    rw [cartWriteRegs, mbc3Write_ramBank k1 k2] at bankedIs
    have target (r : Mbc3) := cartRamTarget_mbc3 s.cfg a.toNat r
    refine ⟨fun h => ?_, fun h => cartRamWindow_shut gatedIs v h1 h2 ((target _).trans (if_neg (mt opens.mp h)))⟩
    have enabled := opens.mpr h
    refine ⟨cartRamWindow_readsBack gatedIs v h1 h2 canonical ((target _).trans (if_pos enabled)), ?_⟩
    by_cases small : w.toNat < 4
    · rw [if_pos small] at bankedIs ⊢
      refine cartRamWindow_names bankedIs v h1 h2 ((target _).trans ((if_pos enabled).trans ?_))
      rw [lowBits_toNat, Nat.mod_eq_of_lt (show w.toNat < 2 ^ 2 from small)]
      rfl
    · rw [if_neg small] at bankedIs ⊢
      exact cartRamWindow_names bankedIs v h1 h2 ((target _).trans (if_pos enabled))
  · have gatedIs : gated = { s with cart := .mbc5 { r with ramEnable := nibbleOpens x } } :=
      busWrite_regs (by omega) (by rw [cartWriteRegs_mbc5 _ inserted, mbc5Write_gate gate])
    have bankedIs : banked = { s with
        cart := .mbc5 { r with ramEnable := nibbleOpens x, ramBank := w.extractLsb' 0 4 } } :=
      (busWrite_regs_again gatedIs kRegs).trans (by rw [cartWriteRegs, mbc5Write_ramBank k1 k2])
    have target (r : Mbc5) := cartRamTarget_mbc5 s.cfg a.toNat r
    refine ⟨fun h => ?_, fun h => cartRamWindow_shut gatedIs v h1 h2 ((target _).trans (if_neg (mt opens.mp h)))⟩
    have enabled := opens.mpr h
    refine ⟨cartRamWindow_readsBack gatedIs v h1 h2 canonical ((target _).trans (if_pos enabled)),
      cartRamWindow_names bankedIs v h1 h2 ((target _).trans ((if_pos enabled).trans ?_))⟩
    rw [lowBits_toNat]
    rfl

end

section
/-! PROOFS. Decoding against encoding (30_encoding.md): the fields of a byte, the encodings of the families of the regular pages,
and from them the round trip both ways and the illegal bytes (O1 to O4). -/

namespace Sys2Proof

open Sys2Proof.Machine

/-! A byte as its fields x, y and z (R142). -/

/-- A two-bit field is one of four values. -/
theorem quarter_cases {P : BitVec 2 → Prop} (h0 : P 0#2) (h1 : P 1#2) (h2 : P 2#2) (h3 : P 3#2) : ∀ x, P x
  | ⟨0, _⟩ => h0 | ⟨1, _⟩ => h1 | ⟨2, _⟩ => h2 | ⟨3, _⟩ => h3

/-- A three-bit field is one of eight values. -/
theorem octal_cases {P : BitVec 3 → Prop} (h0 : P 0#3) (h1 : P 1#3) (h2 : P 2#3) (h3 : P 3#3) (h4 : P 4#3)
    (h5 : P 5#3) (h6 : P 6#3) (h7 : P 7#3) : ∀ y, P y
  | ⟨0, _⟩ => h0 | ⟨1, _⟩ => h1 | ⟨2, _⟩ => h2 | ⟨3, _⟩ => h3 | ⟨4, _⟩ => h4 | ⟨5, _⟩ => h5 | ⟨6, _⟩ => h6 | ⟨7, _⟩ => h7

theorem fields_toNat (x : BitVec 2) (y z : BitVec 3) : (x ++ y ++ z).toNat = 64 * x.toNat + 8 * y.toNat + z.toNat := by
  rw [BitVec.toNat_append, BitVec.toNat_append, ← Nat.shiftLeft_add_eq_or_of_lt z.isLt,
    ← Nat.shiftLeft_add_eq_or_of_lt y.isLt, Nat.shiftLeft_eq, Nat.shiftLeft_eq]
  omega

theorem exists_fields (b : Byte) : ∃ (x : BitVec 2) (y z : BitVec 3), b = x ++ y ++ z := by
  refine ⟨b.extractLsb' 6 2, b.extractLsb' 3 3, b.extractLsb' 0 3, BitVec.eq_of_toNat_eq ?_⟩
  have := b.isLt
  simp only [fields_toNat, BitVec.extractLsb'_toNat, Nat.shiftRight_eq_div_pow]
  omega

section
variable (x : BitVec 2) (y z : BitVec 3)

theorem fieldX_fields : (x ++ y ++ z).toNat / 64 = x.toNat := by rw [fields_toNat]; omega
theorem fieldY_fields : (x ++ y ++ z).toNat / 8 % 8 = y.toNat := by rw [fields_toNat]; omega
theorem fieldZ_fields : (x ++ y ++ z).toNat % 8 = z.toNat := by rw [fields_toNat]; omega

end

theorem opcodeLength_cases (b : Byte) : opcodeLength b = 1 ∨ opcodeLength b = 2 ∨ opcodeLength b = 3 := by
  revert b; decide

/-! The decoder's field functions invert the field codes (R145, R150, R151). -/

/-- Code 6 names no register but the operand (HL). -/
theorem regField_cases (z : BitVec 3) :
    (∃ r, regField z.toNat = some r ∧ r.field = z) ∨ regField z.toNat = none ∧ z = 0b110#3 := by
  cases z using octal_cases with
  | h0 => exact .inl ⟨.b, rfl, rfl⟩
  | h1 => exact .inl ⟨.c, rfl, rfl⟩
  | h2 => exact .inl ⟨.d, rfl, rfl⟩
  | h3 => exact .inl ⟨.e, rfl, rfl⟩
  | h4 => exact .inl ⟨.h, rfl, rfl⟩
  | h5 => exact .inl ⟨.l, rfl, rfl⟩
  | h6 => exact .inr ⟨rfl, rfl⟩
  | h7 => exact .inl ⟨.a, rfl, rfl⟩

@[simp] theorem field_aluField (y : BitVec 3) : (aluField y.toNat).field = y := by cases y using octal_cases <;> rfl
@[simp] theorem field_rotField (y : BitVec 3) : (rotField y.toNat).field = y := by cases y using octal_cases <;> rfl
@[simp] theorem field_bitField (y : BitVec 3) : (bitField y.toNat).field = y := by cases y using octal_cases <;> rfl

/-! The encodings of the regular pages by their operand fields. -/

section
variable (r rd rs : Reg8) (op : AluOp) (ro : RotOp) (k : Bit3)

@[simp] theorem encode_ofLdReg : encode (.ofLdReg rd rs) = [0b01#2 ++ rd.field ++ rs.field] := by
  cases rd <;> cases rs <;> rfl
@[simp] theorem encode_ofLdFromHL : encode (.ofLdFromHL rd) = [0b01#2 ++ rd.field ++ 0b110#3] := by cases rd <;> rfl
@[simp] theorem encode_ofLdToHL : encode (.ofLdToHL rs) = [0b01#2 ++ 0b110#3 ++ rs.field] := by cases rs <;> rfl
@[simp] theorem encode_ofAluReg : encode (.ofAluReg op r) = [0b10#2 ++ op.field ++ r.field] := by
  cases op <;> cases r <;> rfl
@[simp] theorem encode_ofAluHL : encode (.ofAluHL op) = [0b10#2 ++ op.field ++ 0b110#3] := by cases op <;> rfl
@[simp] theorem encode_ofRot : encode (.ofRot ro r) = [0xCB, 0b00#2 ++ ro.field ++ r.field] := by
  cases ro <;> cases r <;> rfl
@[simp] theorem encode_ofRotHL : encode (.ofRotHL ro) = [0xCB, 0b00#2 ++ ro.field ++ 0b110#3] := by cases ro <;> rfl
@[simp] theorem encode_ofBit : encode (.ofBit k r) = [0xCB, 0b01#2 ++ k.field ++ r.field] := by
  cases k <;> cases r <;> rfl
@[simp] theorem encode_ofBitHL : encode (.ofBitHL k) = [0xCB, 0b01#2 ++ k.field ++ 0b110#3] := by cases k <;> rfl
@[simp] theorem encode_ofRes : encode (.ofRes k r) = [0xCB, 0b10#2 ++ k.field ++ r.field] := by
  cases k <;> cases r <;> rfl
@[simp] theorem encode_ofResHL : encode (.ofResHL k) = [0xCB, 0b10#2 ++ k.field ++ 0b110#3] := by cases k <;> rfl
@[simp] theorem encode_ofSet : encode (.ofSet k r) = [0xCB, 0b11#2 ++ k.field ++ r.field] := by
  cases k <;> cases r <;> rfl
@[simp] theorem encode_ofSetHL : encode (.ofSetHL k) = [0xCB, 0b11#2 ++ k.field ++ 0b110#3] := by cases k <;> rfl

end

/-! Page by page, an encoding is the bytes that were decoded. -/

theorem encode_decodeCb (sub : Byte) : encode (decodeCb sub) = [0xCB, sub] := by
  obtain ⟨x, y, z, rfl⟩ := exists_fields sub
  rw [decodeCb, fieldX_fields, fieldY_fields, fieldZ_fields]
  obtain ⟨r, reg, rfl⟩ | ⟨reg, rfl⟩ := regField_cases z <;> rw [reg] <;> cases x using quarter_cases <;> simp

theorem encode_decodeX1 (y z : BitVec 3) : encode (decodeX1 y.toNat z.toNat) = [0b01#2 ++ y ++ z] := by
  obtain ⟨rd, dst, rfl⟩ | ⟨dst, rfl⟩ := regField_cases y <;> rw [decodeX1, dst] <;>
    obtain ⟨rs, src, rfl⟩ | ⟨src, rfl⟩ := regField_cases z <;> rw [src]
  · exact encode_ofLdReg rd rs
  · exact encode_ofLdFromHL rd
  · exact encode_ofLdToHL rs
  · rfl

theorem encode_decodeX2 (y z : BitVec 3) : encode (decodeX2 y.toNat z.toNat) = [0b10#2 ++ y ++ z] := by
  obtain ⟨r, reg, rfl⟩ | ⟨reg, rfl⟩ := regField_cases z <;> rw [decodeX2, reg] <;> simp

/-- The rows of this page follow no common rule (R152), so they are read one by one, column z by column. -/
theorem encode_decodeX0 (y z : BitVec 3) (nn : Word) :
    encode (decodeX0 y.toNat z.toNat (lowByte nn) nn)
      = [0b00#2 ++ y ++ z, lowByte nn, highByte nn].take (opcodeLength (0b00#2 ++ y ++ z)) := by
  cases z using octal_cases <;> cases y using octal_cases <;> rfl

/-- Row by row like the page of x = 0, but for the byte 0xCB (y = 1, z = 3), which leads to its own page. -/
theorem encode_decodeX3 (y z : BitVec 3) (nn : Word) :
    encode (decodeX3 y.toNat z.toNat (lowByte nn) nn)
      = [0b11#2 ++ y ++ z, lowByte nn, highByte nn].take (opcodeLength (0b11#2 ++ y ++ z)) := by
  cases z using octal_cases with
  | h3 =>
    cases y using octal_cases with
    | h1 => exact encode_decodeCb (lowByte nn)
    | _ => rfl
  | _ => cases y using octal_cases <;> rfl

theorem encode_decodeBytes (b n m : Byte) : encode (decodeBytes b n m) = [b, n, m].take (opcodeLength b) := by
  obtain ⟨x, y, z, rfl⟩ := exists_fields b
  have len1 : opcodeLength (0b01#2 ++ y ++ z) = 1 := by rw [opcodeLength, fieldX_fields]; rfl
  have len2 : opcodeLength (0b10#2 ++ y ++ z) = 1 := by rw [opcodeLength, fieldX_fields]; rfl
  rw [decodeBytes, fieldX_fields, fieldY_fields, fieldZ_fields]
  cases x using quarter_cases
  · simpa using encode_decodeX0 y z (joinBytes m n)
  · rw [len1]; exact encode_decodeX1 y z
  · rw [len2]; exact encode_decodeX2 y z
  · simpa using encode_decodeX3 y z (joinBytes m n)

/-! An encoding decodes to its instruction. -/

/-- An instruction is decoded from its own bytes, with 0 for those it lacks. -/
theorem decodeBytes_encode :
    Function.LeftInverse (fun bs => decodeBytes (bs.getD 0 0) (bs.getD 1 0) (bs.getD 2 0)) encode := by
  have byte {i : Byte → Instr} {b : Byte} (v : Byte) (bytes : encode (i v) = [b, v])
      (back : ∀ n m, decodeBytes b n m = i n) :
      decodeBytes ((encode (i v)).getD 0 0) ((encode (i v)).getD 1 0) ((encode (i v)).getD 2 0) = i v := by
    rw [bytes]; exact back v 0
  have word {i : Word → Instr} {b : Byte} (nn : Word) (bytes : encode (i nn) = [b, lowByte nn, highByte nn])
      (back : ∀ n m, decodeBytes b n m = i (joinBytes m n)) :
      decodeBytes ((encode (i nn)).getD 0 0) ((encode (i nn)).getD 1 0) ((encode (i nn)).getD 2 0) = i nn := by
    rw [bytes]; exact (back _ _).trans (congrArg i (joinBytes_split nn))
  intro i
  cases i with
  | ld_bc_d16 nn | ld_de_d16 nn | ld_hl_d16 nn | ld_sp_d16 nn | ld_atA16_sp nn | ld_atA16_a nn | ld_a_atA16 nn
  | jp_a16 nn | jp_nz_a16 nn | jp_z_a16 nn | jp_nc_a16 nn | jp_c_a16 nn
  | call_a16 nn | call_nz_a16 nn | call_z_a16 nn | call_nc_a16 nn | call_c_a16 nn =>
    exact word nn rfl fun _ _ => rfl
  | ld_b_d8 v | ld_c_d8 v | ld_d_d8 v | ld_e_d8 v | ld_h_d8 v | ld_l_d8 v | ld_a_d8 v | ld_atHL_d8 v
  | add_a_d8 v | adc_a_d8 v | sub_d8 v | sbc_a_d8 v | and_d8 v | xor_d8 v | or_d8 v | cp_d8 v
  | ldh_atA8_a v | ldh_a_atA8 v | add_sp_e8 v | ld_hl_sp_e8 v | stop v
  | jr_e8 v | jr_nz_e8 v | jr_z_e8 v | jr_nc_e8 v | jr_c_e8 v =>
    exact byte v rfl fun _ _ => rfl
  | _ => rfl

/-- A list that begins with the bytes of an instruction decodes to it. -/
theorem decode_of_encode_eq {i : Instr} {b : Byte} {bs : List Byte} (long : opcodeLength b ≤ bs.length + 1)
    (lead : encode i = [b, bs.getD 0 0, bs.getD 1 0].take (opcodeLength b)) :
    decode (b :: bs) = .ok (i, bs.drop (opcodeLength b - 1)) := by
  rw [decode, if_neg (by omega), decodeBytes_encode.injective (lead.trans (encode_decodeBytes ..).symm)]

theorem decode_encode_append (i : Instr) (rest : List Byte) : decode (encode i ++ rest) = .ok (i, rest) := by
  obtain ⟨b, n, m, own⟩ : ∃ b n m, decodeBytes b n m = i := ⟨_, _, _, decodeBytes_encode i⟩
  have bytes : encode i = [b, n, m].take (opcodeLength b) := own ▸ encode_decodeBytes b n m
  have read {bs : List Byte} := decode_of_encode_eq (i := i) (b := b) (bs := bs)
  rcases opcodeLength_cases b with len | len | len <;> rw [len] at bytes read <;> rw [bytes] at read ⊢ <;>
    exact read (by simp) rfl

/-- An ill-formed instruction is the one byte that names none (R156). -/
theorem encode_of_illegalByte {i : Instr} {b : Byte} (h : i.illegalByte = some b) :
    encode i = [b] ∧ b ∈ [(0xD3 : Byte), 0xDB, 0xDD, 0xE3, 0xE4, 0xEB, 0xEC, 0xED, 0xF4, 0xFC, 0xFD] := by
  unfold Instr.illegalByte at h
  split at h <;> cases h <;> exact ⟨rfl, by decide⟩

end Sys2Proof

open Sys2Proof

/-- Settles O2: an instruction's bytes with others after them decode to an instruction of the same encoding
(`encode_decodeBytes`), and the encoding is injective. -/
theorem decodeOfEncode : Obligations.DecodeOfEncode := decode_encode_append

/-- Settles O3: page by page (R152), by the operand fields where they rule the whole page. -/
theorem encodeOfDecode : Obligations.EncodeOfDecode := encode_decodeBytes

/-- Settles O4: an ill-formed instruction is one byte long (`encode_of_illegalByte`), and so that byte is the first. -/
theorem illegalBytesExactly : Obligations.IllegalBytesExactly := by
  intro b n m
  constructor
  · intro illFormed
    obtain ⟨v, illegal⟩ := Option.isSome_iff_exists.mp (Option.isNone_eq_false_iff.mp illFormed)
    obtain ⟨bytes, listed⟩ := encode_of_illegalByte illegal
    rw [encode_decodeBytes] at bytes
    have first : ([b, n, m].take (opcodeLength b)).head? = some b := by
      rcases opcodeLength_cases b with len | len | len <;> rw [len] <;> rfl
    rw [bytes, List.head?_cons] at first
    exact Option.some.inj first ▸ listed
  · intro illegal
    simp only [List.mem_cons, List.not_mem_nil, or_false] at illegal
    rcases illegal with rfl | rfl | rfl | rfl | rfl | rfl | rfl | rfl | rfl | rfl | rfl <;> rfl

/-- Settles O1: each word is the encoding of its instruction, which `decodeOfEncode` reads back. -/
theorem specWordsDecode : Obligations.SpecWordsDecode :=
  ⟨decodeOfEncode .nop [], decodeOfEncode .ld_b_c [], decodeOfEncode (.ld_a_d8 0x15) [],
    decodeOfEncode (.ld_bc_d16 0x1234) [], decodeOfEncode .push_af [], decodeOfEncode .sbc_a_atHL [],
    decodeOfEncode .add_hl_sp [], decodeOfEncode .swap_a [], decodeOfEncode .bit_0_atHL [], decodeOfEncode .halt [],
    decodeOfEncode (.call_nz_a16 0x0150) [], decodeOfEncode (.ldh_atA8_a 0x40) [0x99], rfl, rfl⟩

end

section
/-! PROOFS. The 8-bit loads (40_load8.md): the instructions by their operand, and each family's result with the program
counter and the cost written out (O5 to O7). -/

namespace Sys2Proof.Machine

/-! A write after the move past the instruction (R11, R13), and the pointer's move after a store. -/

theorem setReg_advance (s : State) (n k : Nat) (r : Reg8) (v : Byte) :
    (s.advance n k).setReg r v = { s.setReg r v with pc := s.pc + BitVec.ofNat 16 n, cycles := k } := by
  cases r <;> rfl

/-- A store neither reads nor changes the CPU's part (`busWrite_withCpu`, `busWrite_cpu`). -/
theorem memWrite_advance (s : State) (n k : Nat) (a : Word) (v : Byte) :
    (s.advance n k).memWrite a v = { busWrite s a v with pc := s.pc + BitVec.ofNat 16 n, cycles := k } :=
  calc (s.advance n k).memWrite a v
    _ = (busWrite s a v).withCpu (s.advance n k).cpu := busWrite_withCpu s (s.advance n k).cpu a v
    _ = { (busWrite s a v).withCpu s.cpu with pc := s.pc + BitVec.ofNat 16 n, cycles := k } := rfl
    _ = { busWrite s a v with pc := s.pc + BitVec.ofNat 16 n, cycles := k } := by rw [← busWrite_cpu]

@[simp] theorem busWrite_hl (s : State) (a : Word) (v : Byte) : (busWrite s a v).hl = s.hl := by
  simp only [State.hl, busWrite_h, busWrite_l]

theorem movePointer_hlInc {s : State} {hl : Word} (h : s.hl = hl) : s.movePointer .hlInc = s.setHL (hl + 1) := by
  rw [State.movePointer, h]

theorem movePointer_hlDec {s : State} {hl : Word} (h : s.hl = hl) : s.movePointer .hlDec = s.setHL (hl - 1) := by
  rw [State.movePointer, h]

section
variable (s : State) (rd rs : Reg8) (n : Byte) (p : Pointer) (a : Word) (len cost : Nat)

/-! The families' results. -/

theorem ldReg_eq : ldReg rd rs s = .next { s.setReg rd (s.reg rs) with pc := s.pc + 1, cycles := 4 } :=
  congrArg Host.Outcome.next (setReg_advance s 1 4 rd _)

theorem ldImm_eq : ldImm rd n s = .next { s.setReg rd n with pc := s.pc + 2, cycles := 8 } :=
  congrArg Host.Outcome.next (setReg_advance s 2 8 rd n)

theorem ldFromHL_eq : ldFromHL rd s = .next { s.setReg rd (busRead s s.hl) with pc := s.pc + 1, cycles := 8 } :=
  congrArg Host.Outcome.next (setReg_advance s 1 8 rd _)

theorem ldToHL_eq : ldToHL rs s = .next { busWrite s s.hl (s.reg rs) with pc := s.pc + 1, cycles := 8 } :=
  congrArg Host.Outcome.next (memWrite_advance s 1 8 s.hl (s.reg rs))

theorem ldAFrom_eq : ldAFrom p s =
    .next ({ s with a := busRead s (s.pointer p), pc := s.pc + 1, cycles := 8 }.movePointer p) := rfl

/-- The byte goes to the address that the pointer holds before it moves (R186, R188). -/
theorem ldATo_eq : ldATo p s =
    .next ({ busWrite s (s.pointer p) s.a with pc := s.pc + 1, cycles := 8 }.movePointer p) :=
  congrArg (fun t => Host.Outcome.next (State.movePointer t p)) (memWrite_advance s 1 8 (s.pointer p) s.a)

theorem ldAAbs_eq : ldAAbs a len cost s =
    .next { s with a := busRead s a, pc := s.pc + BitVec.ofNat 16 len, cycles := cost } := rfl

theorem stAAbs_eq : stAAbs a len cost s =
    .next { busWrite s a s.a with pc := s.pc + BitVec.ofNat 16 len, cycles := cost } :=
  congrArg Host.Outcome.next (memWrite_advance s len cost a s.a)

/-! The instructions by their operand. -/

@[simp] theorem encode_ofLdImm : encode (.ofLdImm rd n) = [0b00#2 ++ rd.field ++ 0b110#3, n] := by cases rd <;> rfl

theorem exec_ofLdReg : exec (.ofLdReg rd rs) s = ldReg rd rs s := by cases rd <;> cases rs <;> rfl
theorem exec_ofLdImm : exec (.ofLdImm rd n) s = ldImm rd n s := by cases rd <;> rfl
theorem exec_ofLdFromHL : exec (.ofLdFromHL rd) s = ldFromHL rd s := by cases rd <;> rfl
theorem exec_ofLdToHL : exec (.ofLdToHL rs) s = ldToHL rs s := by cases rs <;> rfl
theorem exec_ofLdAFrom : exec (.ofLdAFrom p) s = ldAFrom p s := by cases p <;> rfl
theorem exec_ofLdATo : exec (.ofLdATo p) s = ldATo p s := by cases p <;> rfl

end

end Sys2Proof.Machine

open Sys2Proof Sys2Proof.Machine

/-- Settles O5: each family by its operand, for every register at once. -/
theorem byteLoadResults : Obligations.ByteLoadResults := by
  intro s
  refine ⟨⟨encode_ofLdReg, encode_ofLdImm, encode_ofLdFromHL, encode_ofLdToHL, fun n => rfl⟩, fun rd rs => ?reg,
    fun rd n => ?imm, fun rd => ?fromHL, fun rs => ?toHL, fun n => ?immToHL⟩
  case reg => exact (exec_ofLdReg s rd rs).trans (ldReg_eq s rd rs)
  case imm => exact (exec_ofLdImm s rd n).trans (ldImm_eq s rd n)
  case fromHL => exact (exec_ofLdFromHL s rd).trans (ldFromHL_eq s rd)
  case toHL => exact (exec_ofLdToHL s rs).trans (ldToHL_eq s rs)
  case immToHL => exact congrArg Host.Outcome.next (memWrite_advance s 2 12 s.hl n)

/-- Settles O6: each instruction is its family at one of the four pointers, and a store leaves HL for the pointer's move. -/
theorem pointerLoadResults : Obligations.PointerLoadResults := by
  intro s bc de hl
  have load (p : Pointer) := (exec_ofLdAFrom s p).trans (ldAFrom_eq s p)
  have store (p : Pointer) := (exec_ofLdATo s p).trans (ldATo_eq s p)
  have stored : (busWrite s hl s.a).hl = hl := busWrite_hl s hl s.a
  refine ⟨by decide, load .bc, load .de, load .hlInc, load .hlDec, store .bc, store .de, ?inc, ?dec⟩
  case inc => exact (store .hlInc).trans (congrArg Host.Outcome.next (movePointer_hlInc stored))
  case dec => exact (store .hlDec).trans (congrArg Host.Outcome.next (movePointer_hlDec stored))

/-- Settles O7: each instruction is a load or a store at an absolute address, whose length and cost its row gives. -/
theorem absoluteLoadResults : Obligations.AbsoluteLoadResults := by
  intro s nn n
  exact ⟨⟨rfl, rfl, rfl, rfl, rfl, rfl⟩, ldAAbs_eq s nn 3 16, stAAbs_eq s nn 3 16, ldAAbs_eq s (highPage s.c) 1 8,
    stAAbs_eq s (highPage s.c) 1 8, ldAAbs_eq s (highPage n) 2 12, stAAbs_eq s (highPage n) 2 12⟩

end

section
/-! PROOFS. The 16-bit loads and the stack instructions (41_load16.md): the encodings by the pair, the two stores of a word, and
each family's result with the program counter and the cost written out (O8 to O10). -/

namespace Sys2Proof.Machine

/-! A word stored as two bytes (R62), whatever the CPU's part. -/

theorem memWrite16_withCpu (s : State) (r : CpuRegs) (a v : Word) :
    (s.withCpu r).memWrite16 a v = (s.memWrite16 a v).withCpu r := by
  simp only [State.memWrite16, busWrite_withCpu]

theorem memWrite16_cpu (s : State) (a v : Word) : s.memWrite16 a v = (s.memWrite16 a v).withCpu s.cpu :=
  busWrite_busWrite_cpu s a (a + 1) (lowByte v) (highByte v)

section
variable (s : State) (n k : Nat) (a v : Word)

theorem memWrite16_advance : (s.advance n k).memWrite16 a v =
    { s.memWrite16 a v with pc := s.pc + BitVec.ofNat 16 n, cycles := k } :=
  calc (s.advance n k).memWrite16 a v
    _ = (s.memWrite16 a v).withCpu (s.advance n k).cpu := memWrite16_withCpu s (s.advance n k).cpu a v
    _ = { (s.memWrite16 a v).withCpu s.cpu with pc := s.pc + BitVec.ofNat 16 n, cycles := k } := rfl
    _ = { s.memWrite16 a v with pc := s.pc + BitVec.ofNat 16 n, cycles := k } := by rw [← memWrite16_cpu]

/-- A push stores the word at the lowered SP (R12). -/
theorem push16_advance : (s.advance n k).push16 v =
    { s.memWrite16 (s.sp - 2) v with sp := s.sp - 2, pc := s.pc + BitVec.ofNat 16 n, cycles := k } :=
  let t : State := { s.advance n k with sp := s.sp - 2 }
  calc (s.advance n k).push16 v
    _ = (s.memWrite16 (s.sp - 2) v).withCpu t.cpu := memWrite16_withCpu s t.cpu (s.sp - 2) v
    _ = { (s.memWrite16 (s.sp - 2) v).withCpu s.cpu with
          sp := s.sp - 2, pc := s.pc + BitVec.ofNat 16 n, cycles := k } := rfl
    _ = { s.memWrite16 (s.sp - 2) v with sp := s.sp - 2, pc := s.pc + BitVec.ofNat 16 n, cycles := k } := by
      rw [← memWrite16_cpu]

end

/-- Where the second byte of a push lands. -/
theorem sp_sub_two_add_one (sp : Word) : sp - 2 + 1 = sp - 1 := by bv_omega

/-- A push's two stores, the low byte first. -/
theorem memWrite16_joinBytes_below (s : State) (hi lo : Byte) :
    s.memWrite16 (s.sp - 2) (joinBytes hi lo) = busWrite (busWrite s (s.sp - 2) lo) (s.sp - 1) hi := by
  rw [State.memWrite16, lowByte_joinBytes, highByte_joinBytes, sp_sub_two_add_one]

theorem highByte_popValue (s : State) : highByte s.popValue = busRead s (s.sp + 1) := highByte_joinBytes _ _
theorem lowByte_popValue (s : State) : lowByte s.popValue = busRead s s.sp := lowByte_joinBytes _ _

/-! The instructions by their pair. -/

@[simp] theorem encode_ofLdPair (p : RegPair) (nn : Word) :
    encode (.ofLdPair p nn) = [0b00#2 ++ p.field ++ 0b0001#4, lowByte nn, highByte nn] := by cases p <;> rfl
@[simp] theorem encode_ofPush (p : StackPair) : encode (.ofPush p) = [0b11#2 ++ p.field ++ 0b0101#4] := by cases p <;> rfl
@[simp] theorem encode_ofPop (p : StackPair) : encode (.ofPop p) = [0b11#2 ++ p.field ++ 0b0001#4] := by cases p <;> rfl

theorem exec_ofLdPair (p : RegPair) (nn : Word) (s : State) : exec (.ofLdPair p nn) s = ldPairImm p nn s := by
  cases p <;> rfl

/-! The families' results. -/

theorem ldPairImm_eq (p : RegPair) (nn : Word) (s : State) :
    ldPairImm p nn s = .next ({ s with pc := s.pc + 3, cycles := 12 }.setPair p nn) := rfl

/-- The byte that a push stores first is the pair's low half. -/
theorem pushPair_eq {p : StackPair} {s : State} {hi lo : Byte} (pair : s.stackPair p = joinBytes hi lo) :
    pushPair p s = .next { busWrite (busWrite s (s.sp - 2) lo) (s.sp - 1) hi with
      sp := s.sp - 2, pc := s.pc + 1, cycles := 16 } := by
  rw [pushPair, push16_advance, pair, memWrite16_joinBytes_below]
  rfl

theorem popPair_eq (p : StackPair) (s : State) :
    popPair p s = .next ({ s with sp := s.sp + 2, pc := s.pc + 1, cycles := 12 }.setStackPair p s.popValue) := rfl

section
variable {s : State} {e : Byte} {res : Word} {half carry : Bool}

theorem exec_ld_hl_sp_e8_eq (sum : spRel s.cfg.sprelFlags s.sp e = ⟨res, half, carry⟩) :
    exec (.ld_hl_sp_e8 e) s = .next { s with
      h := highByte res, l := lowByte res, f := flagsByte false false half carry, pc := s.pc + 2, cycles := 12 } := by
  change exec_ld_hl_sp_e8 e s = _
  rw [exec_ld_hl_sp_e8, sum]
  rfl

theorem exec_add_sp_e8_eq (sum : spRel s.cfg.sprelFlags s.sp e = ⟨res, half, carry⟩) :
    exec (.add_sp_e8 e) s = .next { s with
      sp := res, f := flagsByte false false half carry, pc := s.pc + 2, cycles := 16 } := by
  change exec_add_sp_e8 e s = _
  rw [exec_add_sp_e8, sum]
  rfl

end

end Sys2Proof.Machine

open Sys2Proof Sys2Proof.Machine

/-- Settles O8: a pair is loaded by its family, and the two stores of SP ignore the fetch (`memWrite16_advance`). -/
theorem pairLoadResults : Obligations.PairLoadResults := by
  intro s nn
  have load (p : RegPair) := (exec_ofLdPair p nn s).trans (ldPairImm_eq p nn s)
  have halves (hi lo : Byte) : joinBytes hi lo = hi ++ lo ∧ highByte (hi ++ lo) = hi ∧ lowByte (hi ++ lo) = lo :=
    ⟨rfl, highByte_joinBytes hi lo, lowByte_joinBytes hi lo⟩
  refine ⟨halves, ⟨fun p => encode_ofLdPair p nn, rfl, rfl⟩, load .bc, load .de, load .hl, load .sp, ?fromHL, ?store⟩
  case fromHL => rfl
  case store => exact congrArg Host.Outcome.next (memWrite16_advance s 3 20 nn s.sp)

/-- Settles O9: PUSH stores the halves of its pair (`pushPair_eq`), and POP takes them from where `popValue` reads them. -/
theorem pushPopResults : Obligations.PushPopResults := by
  intro s push lo hi
  have popped (p : StackPair) := (exec_ofPop p s).trans (popPair_eq p s)
  refine ⟨⟨encode_ofPush, encode_ofPop⟩, ⟨pushPair_eq rfl, pushPair_eq rfl, pushPair_eq rfl, pushPair_eq rfl⟩,
    (popped .bc).trans ?bc, (popped .de).trans ?de, (popped .hl).trans ?hl, (popped .af).trans ?af⟩
  case bc => rw [State.setStackPair, State.setBC, highByte_popValue, lowByte_popValue]
  case de => rw [State.setStackPair, State.setDE, highByte_popValue, lowByte_popValue]
  case hl => rw [State.setStackPair, State.setHL, highByte_popValue, lowByte_popValue]
  case af => rw [State.setStackPair, State.setAF, highByte_popValue, lowByte_popValue]

/-- Settles O10: both instructions write the sum and the carries of `spRel`, which the parameter SPREL_FLAGS selects. -/
theorem stackOffsetResults : Obligations.StackOffsetResults := by
  intro s e res half carry
  have sum : spRel s.cfg.sprelFlags s.sp e = ⟨res, half, carry⟩ := by
    simp only [half, carry]
    cases s.cfg.sprelFlags with
    | nibbleByte => rfl
    | byteWord => rfl
  exact ⟨⟨rfl, rfl⟩, exec_ld_hl_sp_e8_eq sum, exec_add_sp_e8_eq sum⟩

end

section
/-! PROOFS. The 8-bit arithmetic (42_alu8.md): sums and differences with their carries as byte arithmetic and as totals, DAA's
correction, and each family's result with the program counter and the cost written out (O24, O25, O11 to O14). -/

namespace Sys2Proof.Machine

/-! Sums and differences (R216, R217). -/

@[simp] theorem bitNat_false : bitNat false = 0 := rfl
@[simp] theorem bitNat_true : bitNat true = 1 := rfl

theorem bitNat_le_one (b : Bool) : bitNat b ≤ 1 := by cases b <;> decide

theorem bitNat_decide (p : Prop) [Decidable p] : bitNat (decide p) = if p then 1 else 0 := by
  simp only [bitNat, decide_eq_true_eq]

/-- A difference of integers is the difference of the bytes they are cut to. -/
theorem byteOfInt_sub (x y : Int) : BitVec.ofInt 8 (x - y) = BitVec.ofInt 8 x - BitVec.ofInt 8 y := by
  rw [Int.sub_eq_add_neg, BitVec.ofInt_add, BitVec.ofInt_neg, BitVec.sub_eq_add_neg]

section
variable (a b : Byte) (cin : Bool)

theorem add8_eq :
    let res := a + b + (if cin then 1 else 0)
    let k := if cin then 1 else 0
    add8 a b cin = ⟨res, decide (res = 0), decide (a.toNat % 16 + b.toNat % 16 + k > 0x0F),
      decide (a.toNat + b.toNat + k > 0xFF)⟩ := by
  have res : BitVec.ofNat 8 (a.toNat + b.toNat + bitNat cin) = a + b + (if cin then 1 else 0) := by
    cases cin <;> simp [BitVec.ofNat_add]
  simp only [add8, res]
  rfl

theorem sub8_eq :
    let res := a - b - (if cin then 1 else 0)
    let k := if cin then 1 else 0
    sub8 a b cin = ⟨res, decide (res = 0), decide (a.toNat % 16 < b.toNat % 16 + k), decide (a.toNat < b.toNat + k)⟩ := by
  have res : BitVec.ofInt 8 ((a.toNat : Int) - b.toNat - bitNat cin) = a - b - (if cin then 1 else 0) := by
    cases cin <;> simp [byteOfInt_sub]
  have borrow (x y : Nat) : (x : Int) - y - bitNat cin < 0 ↔ x < y + bitNat cin := by omega
  simp only [sub8, res, borrow]
  rfl

theorem sub8_noBorrow : sub8 a b false =
    ⟨a - b, decide (a - b = 0), decide (a.toNat % 16 < b.toNat % 16), decide (a.toNat < b.toNat)⟩ := by
  simpa using sub8_eq a b false

/-- The carry out stands for 256: nothing of the sum is lost. -/
theorem add8_total :
    a.toNat + b.toNat + bitNat cin = (add8 a b cin).res.toNat + 256 * bitNat (add8 a b cin).c := by
  have := a.isLt
  have := b.isLt
  have := bitNat_le_one cin
  rw [add8, bitNat_decide, BitVec.toNat_ofNat]
  split <;> omega

/-- The borrow stands for 256: the result and what was taken away make up the byte again. -/
theorem sub8_total :
    a.toNat + 256 * bitNat (sub8 a b cin).c = (sub8 a b cin).res.toNat + b.toNat + bitNat cin := by
  have := a.isLt
  have := b.isLt
  have := bitNat_le_one cin
  rw [sub8, bitNat_decide, BitVec.toNat_ofInt]
  split <;> omega

end

/-! Two chained bytes are one word: the carry between them cancels, and what the last one stands for decides word and carry. -/

section
variable (x y : Word)

theorem add8_chain_total :
    let lo := add8 (lowByte x) (lowByte y) false
    let hi := add8 (highByte x) (highByte y) lo.c
    x.toNat + y.toNat = (joinBytes hi.res lo.res).toNat + 0x10000 * bitNat hi.c := by
  intro lo hi
  have low : _ = lo.res.toNat + 256 * bitNat lo.c := add8_total (lowByte x) (lowByte y) false
  have high : _ = hi.res.toNat + 256 * bitNat hi.c := add8_total (highByte x) (highByte y) lo.c
  rw [lowByte_toNat, lowByte_toNat, bitNat_false] at low
  rw [highByte_toNat, highByte_toNat] at high
  rw [joinBytes_toNat]
  omega

theorem sub8_chain_total :
    let lo := sub8 (lowByte x) (lowByte y) false
    let hi := sub8 (highByte x) (highByte y) lo.c
    x.toNat + 0x10000 * bitNat hi.c = (joinBytes hi.res lo.res).toNat + y.toNat := by
  intro lo hi
  have low : _ + 256 * bitNat lo.c = lo.res.toNat + _ + _ := sub8_total (lowByte x) (lowByte y) false
  have high : _ + 256 * bitNat hi.c = hi.res.toNat + _ + _ := sub8_total (highByte x) (highByte y) lo.c
  rw [lowByte_toNat, lowByte_toNat, bitNat_false] at low
  rw [highByte_toNat, highByte_toNat] at high
  rw [joinBytes_toNat]
  omega

end

section
variable {x y w : Word} {c : Bool}

theorem word_add_of_total (h : x.toNat + y.toNat = w.toNat + 0x10000 * bitNat c) :
    w = x + y ∧ c = decide (x.toNat + y.toNat > 0xFFFF) := by
  have := w.isLt
  cases c with
  | false => rw [bitNat_false] at h; exact ⟨by bv_omega, (decide_eq_false (by omega)).symm⟩
  | true => rw [bitNat_true] at h; exact ⟨by bv_omega, (decide_eq_true (by omega)).symm⟩

theorem word_sub_of_total (h : x.toNat + 0x10000 * bitNat c = w.toNat + y.toNat) :
    w = x - y ∧ c = decide (x.toNat < y.toNat) := by
  have := w.isLt
  cases c with
  | false => rw [bitNat_false] at h; exact ⟨by bv_omega, (decide_eq_false (by omega)).symm⟩
  | true => rw [bitNat_true] at h; exact ⟨by bv_omega, (decide_eq_true (by omega)).symm⟩

end

/-! DAA's correction (R246). -/

/-- Whether DAA corrects the high digit; it is also the carry that DAA leaves. -/
def daaHigh (a : Byte) (n c : Bool) : Bool := c || (!n && decide (a.toNat > 0x99))

/-- Whether DAA corrects the low digit. -/
def daaLow (a : Byte) (n h : Bool) : Bool := h || (!n && decide (a.toNat % 16 > 9))

/-- After a subtraction the carries alone decide. -/
@[simp] theorem daaHigh_of_sub (a : Byte) (c : Bool) : daaHigh a true c = c := Bool.or_false c
@[simp] theorem daaLow_of_sub (a : Byte) (h : Bool) : daaLow a true h = h := Bool.or_false h

/-- After an addition a digit that came out above 9 decides too. -/
theorem daaHigh_of_add (a : Byte) (p : Prop) [Decidable p] :
    daaHigh a false (decide p) = decide (p ∨ a.toNat > 0x99) := (Bool.decide_or _ _).symm

theorem daaLow_of_add (a : Byte) (p : Prop) [Decidable p] :
    daaLow a false (decide p) = decide (p ∨ a.toNat % 16 > 9) := (Bool.decide_or _ _).symm

/-- The correction: 6 in each digit that wants it. -/
def daaFix (high low : Bool) : Byte := (if high then 0x60 else 0x00) + (if low then 0x06 else 0x00)

/-- The high correction leaves the low digit, so R246's second test may look at A itself; the integer steps are byte steps. -/
theorem daaAdjust_eq (a : Byte) (n h c : Bool) :
    let fix := daaFix (daaHigh a n c) (daaLow a n h)
    daaAdjust a n h c = (if n then a - fix else a + fix, daaHigh a n c) := by
  cases n with
  | true => cases c <;> cases h <;> simp [daaAdjust, daaHigh, daaLow, daaFix, byteOfInt_sub, BitVec.sub_sub]
  | false =>
    have exceeds : (a.toNat : Int) > 0x99 ↔ a.toNat > 0x99 := by omega
    have low (high : Bool) : (if high then (a.toNat : Int) + 0x60 else a.toNat) % 16 > 9 ↔ a.toNat % 16 > 9 := by
      split <;> omega
    simp only [daaAdjust, daaHigh, daaLow, exceeds, low, Bool.not_false, Bool.true_and, Bool.false_eq_true, if_false]
    cases c || decide (a.toNat > 0x99) <;> cases h || decide (a.toNat % 16 > 9) <;>
      simp [daaFix, BitVec.ofInt_add, BitVec.add_assoc]

@[simp] theorem daaFix_toNat (high low : Bool) : (daaFix high low).toNat = 0x60 * bitNat high + 0x06 * bitNat low := by
  cases high <;> cases low <;> rfl

/-! Packed decimal (R246): the binary carries and DAA's tests find the decimal carry of each digit. -/

/-- A two-digit decimal number, one digit in each half of the byte. -/
def packed (k : Nat) : Byte := BitVec.ofNat 8 (16 * (k / 10) + k % 10)

theorem exists_digits {k : Nat} (h : k < 100) : ∃ tens ones, tens < 10 ∧ ones < 10 ∧ k = 10 * tens + ones :=
  ⟨k / 10, k % 10, by omega, by omega, by omega⟩

/-- Decimal addition digit by digit, with the carry of the ones (`low`) and that of the tens (`high`). -/
theorem decimal_add {p q r t u v k : Nat} (hp : p < 10) (hq : q < 10) (hr : r < 10) (ht : t < 10) (hk : k ≤ 1)
    (hu : u < 10) (hv : v < 10) (digits : (10 * p + q + (10 * r + t) + k) % 100 = 10 * u + v) :
    let low := bitNat (decide (q + t + k ≥ 10))
    let high := bitNat (decide (10 * p + q + (10 * r + t) + k ≥ 100))
    v + 10 * low = q + t + k ∧ u + 10 * high = p + r + low := by
  simp only [bitNat_decide]
  split <;> split <;> omega

/-- Decimal subtraction digit by digit, with the borrow of the ones (`low`) and that of the tens (`high`). -/
theorem decimal_sub {p q r t u v k : Nat} (hp : p < 10) (hq : q < 10) (hr : r < 10) (ht : t < 10) (hk : k ≤ 1)
    (hu : u < 10) (hv : v < 10) (digits : (10 * p + q + 100 - (10 * r + t) - k) % 100 = 10 * u + v) :
    let low := bitNat (decide (q < t + k))
    let high := bitNat (decide (10 * p + q < 10 * r + t + k))
    v + t + k = q + 10 * low ∧ u + r + low = p + 10 * high := by
  simp only [bitNat_decide]
  split <;> split <;> omega

theorem packed_toNat {tens ones : Nat} (ht : tens < 10) (ho : ones < 10) :
    (packed (10 * tens + ones)).toNat = 16 * tens + ones := by
  rw [packed, BitVec.toNat_ofNat]
  omega

/-! The operands by their digits: 10 * p + q and 10 * r + t. -/

section
variable {p q r t : Nat} (hp : p < 10) (hq : q < 10) (hr : r < 10) (ht : t < 10) (cin : Bool)
include hp hq hr ht

theorem daaLow_packed_add :
    let sum := add8 (packed (10 * p + q)) (packed (10 * r + t)) cin
    daaLow sum.res false sum.h = decide (q + t + bitNat cin ≥ 10) := by
  have := bitNat_le_one cin
  simp only [add8, daaLow_of_add, BitVec.toNat_ofNat, packed_toNat hp hq, packed_toNat hr ht, decide_eq_decide]
  omega

theorem daaHigh_packed_add :
    let sum := add8 (packed (10 * p + q)) (packed (10 * r + t)) cin
    daaHigh sum.res false sum.c = decide (10 * p + q + (10 * r + t) + bitNat cin ≥ 100) := by
  have := bitNat_le_one cin
  simp only [add8, daaHigh_of_add, BitVec.toNat_ofNat, packed_toNat hp hq, packed_toNat hr ht, decide_eq_decide]
  omega

theorem sub8_packed_h :
    (sub8 (packed (10 * p + q)) (packed (10 * r + t)) cin).h = decide (q < t + bitNat cin) := by
  have := bitNat_le_one cin
  simp only [sub8, packed_toNat hp hq, packed_toNat hr ht, decide_eq_decide]
  omega

theorem sub8_packed_c :
    (sub8 (packed (10 * p + q)) (packed (10 * r + t)) cin).c = decide (10 * p + q < 10 * r + t + bitNat cin) := by
  have := bitNat_le_one cin
  simp only [sub8, packed_toNat hp hq, packed_toNat hr ht, decide_eq_decide]
  omega

end

section
variable {m n : Nat} (hm : m < 100) (hn : n < 100) (cin : Bool)
include hm hn

theorem daaAdjust_packed_add :
    let sum := add8 (packed m) (packed n) cin
    daaAdjust sum.res false sum.h sum.c =
      (packed ((m + n + bitNat cin) % 100), decide (m + n + bitNat cin ≥ 100)) := by
  intro sum
  obtain ⟨p, q, hp, hq, rfl⟩ := exists_digits hm
  obtain ⟨r, t, hr, ht, rfl⟩ := exists_digits hn
  obtain ⟨u, v, hu, hv, digits⟩ := exists_digits (Nat.mod_lt (10 * p + q + (10 * r + t) + bitNat cin) (by decide))
  obtain ⟨ones, tens⟩ := decimal_add hp hq hr ht (bitNat_le_one cin) hu hv digits
  have total : sum.res.toNat = _ % 256 := BitVec.toNat_ofNat _ _
  rw [packed_toNat hp hq, packed_toNat hr ht] at total
  rw [daaAdjust_eq, daaLow_packed_add hp hq hr ht, daaHigh_packed_add hp hq hr ht]
  refine Prod.ext (BitVec.eq_of_toNat_eq ?_) rfl
  show (sum.res + daaFix _ _).toNat = _
  rw [BitVec.toNat_add, daaFix_toNat, digits, packed_toNat hu hv, total]
  omega

theorem daaAdjust_packed_sub :
    let diff := sub8 (packed m) (packed n) cin
    daaAdjust diff.res true diff.h diff.c =
      (packed ((m + 100 - n - bitNat cin) % 100), decide (m < n + bitNat cin)) := by
  intro diff
  obtain ⟨p, q, hp, hq, rfl⟩ := exists_digits hm
  obtain ⟨r, t, hr, ht, rfl⟩ := exists_digits hn
  obtain ⟨u, v, hu, hv, digits⟩ := exists_digits (Nat.mod_lt (10 * p + q + 100 - (10 * r + t) - bitNat cin) (by decide))
  obtain ⟨ones, tens⟩ := decimal_sub hp hq hr ht (bitNat_le_one cin) hu hv digits
  have borrow : diff.c = _ := sub8_packed_c hp hq hr ht cin
  have half : diff.h = _ := sub8_packed_h hp hq hr ht cin
  have total : _ + 256 * bitNat diff.c = diff.res.toNat + _ + _ := sub8_total _ _ cin
  rw [packed_toNat hp hq, packed_toNat hr ht, borrow] at total
  rw [daaAdjust_eq, daaHigh_of_sub, daaLow_of_sub, borrow, half]
  refine Prod.ext (BitVec.sub_eq_iff_eq_add.mpr (BitVec.eq_of_toNat_eq ?_)) rfl
  rw [BitVec.toNat_add, daaFix_toNat, digits, packed_toNat hu hv]
  omega

end

/-! The instructions by their operand. -/

section
variable (op : AluOp) (r : Reg8) (n : Byte) (s : State)

@[simp] theorem encode_ofAluImm : encode (.ofAluImm op n) = [0b11#2 ++ op.field ++ 0b110#3, n] := by cases op <;> rfl
@[simp] theorem encode_ofInc : encode (.ofInc r) = [0b00#2 ++ r.field ++ 0b100#3] := by cases r <;> rfl
@[simp] theorem encode_ofDec : encode (.ofDec r) = [0b00#2 ++ r.field ++ 0b101#3] := by cases r <;> rfl

theorem exec_ofAluReg : exec (.ofAluReg op r) s = aluReg op r s := by cases op <;> cases r <;> rfl
theorem exec_ofInc : exec (.ofInc r) s = incReg r s := by cases r <;> rfl
theorem exec_ofDec : exec (.ofDec r) s = decReg r s := by cases r <;> rfl

end

/-- The encodings of one ALU operation in its three operand forms (R215). -/
theorem encode_ofAlu (op : AluOp) : (∀ r, encode (.ofAluReg op r) = [0b10#2 ++ op.field ++ r.field])
    ∧ encode (.ofAluHL op) = [0b10#2 ++ op.field ++ 0b110#3]
    ∧ (∀ n, encode (.ofAluImm op n) = [0b11#2 ++ op.field ++ 0b110#3, n]) :=
  ⟨fun r => encode_ofAluReg r op, encode_ofAluHL op, encode_ofAluImm op⟩

/-! INC and DEC test the low nibble by its number (R242, R244). -/

theorem lowNibble_toNat (v : Byte) : (v &&& 0x0F).toNat = v.toNat % 16 :=
  (BitVec.toNat_and v 0x0F).trans (Nat.and_two_pow_sub_one_eq_mod _ 4)

theorem lowNibble_beq (v w : Byte) : (v &&& 0x0F == w) = decide (v.toNat % 16 = w.toNat) := by
  rw [← lowNibble_toNat]
  exact decide_eq_decide.mpr BitVec.toNat_inj.symm

theorem setIncFlags_eq (s : State) (v : Byte) : s.setIncFlags v =
    { s with f := flagsByte (decide (v + 1 = 0)) false (decide (v.toNat % 16 = 15)) (bitOf s.f 4) } := by
  rw [State.setIncFlags, lowNibble_beq]
  rfl

theorem setDecFlags_eq (s : State) (v : Byte) : s.setDecFlags v =
    { s with f := flagsByte (decide (v - 1 = 0)) true (decide (v.toNat % 16 = 0)) (bitOf s.f 4) } := by
  rw [State.setDecFlags, lowNibble_beq]
  rfl

theorem incReg_eq (r : Reg8) (s : State) : incReg r s = .next { s.setReg r (s.reg r + 1) with
    f := flagsByte (decide (s.reg r + 1 = 0)) false (decide ((s.reg r).toNat % 16 = 15)) (bitOf s.f 4)
    pc := s.pc + 1
    cycles := 4 } := by
  rw [incReg, setReg_advance, setIncFlags_eq, State.setReg_f]
  rfl

theorem decReg_eq (r : Reg8) (s : State) : decReg r s = .next { s.setReg r (s.reg r - 1) with
    f := flagsByte (decide (s.reg r - 1 = 0)) true (decide ((s.reg r).toNat % 16 = 0)) (bitOf s.f 4)
    pc := s.pc + 1
    cycles := 4 } := by
  rw [decReg, setReg_advance, setDecFlags_eq, State.setReg_f]
  rfl

theorem exec_inc_atHL_eq (s : State) : exec .inc_atHL s =
    let m := busRead s s.hl
    .next { busWrite s s.hl (m + 1) with
      f := flagsByte (decide (m + 1 = 0)) false (decide (m.toNat % 16 = 15)) (bitOf s.f 4)
      pc := s.pc + 1
      cycles := 12 } := by
  change exec_inc_atHL s = _
  rw [exec_inc_atHL, memWrite_advance, setIncFlags_eq, busWrite_f]
  rfl

theorem exec_dec_atHL_eq (s : State) : exec .dec_atHL s =
    let m := busRead s s.hl
    .next { busWrite s s.hl (m - 1) with
      f := flagsByte (decide (m - 1 = 0)) true (decide (m.toNat % 16 = 0)) (bitOf s.f 4)
      pc := s.pc + 1
      cycles := 12 } := by
  change exec_dec_atHL s = _
  rw [exec_dec_atHL, memWrite_advance, setDecFlags_eq, busWrite_f]
  rfl

end Sys2Proof.Machine

open Sys2Proof Sys2Proof.Machine

/-- Settles O24: in the totals of both bytes together the carry between them cancels (`add8_chain_total`, `sub8_chain_total`). -/
theorem carryChain : Obligations.CarryChain := by
  intro x y a0 a1 s0 s1
  obtain ⟨sum, carry⟩ := word_add_of_total (add8_chain_total x y)
  obtain ⟨diff, borrow⟩ := word_sub_of_total (sub8_chain_total x y)
  exact ⟨sum, carry, diff, borrow⟩

/-- Settles O25: DAA's tests find the decimal carries (`daaLow_packed_add`, `daaHigh_packed_add`; after a subtraction they are the
binary ones), and its correction turns sixteens into tens (`decimal_add`, `decimal_sub`). -/
theorem decimalAdjust : Obligations.DecimalAdjust := by
  intro m n cin hm hn
  exact ⟨daaAdjust_packed_add hm hn cin, daaAdjust_packed_sub hm hn cin⟩

/-- Settles O11: every form writes the sum or the difference of A and its operand (`add8_eq`, `sub8_eq`). -/
theorem addSubtractResults : Obligations.AddSubtractResults := by
  intro s add sub m cy
  have sum (cin : Bool) (v : Byte) (len cost : Nat) :
      .next ((s.advance len cost).setSum (add8 s.a v cin) false) = add cin v (BitVec.ofNat 16 len) cost := by
    rw [add8_eq]; rfl
  have diff (cin : Bool) (v : Byte) (len cost : Nat) :
      .next ((s.advance len cost).setSum (sub8 s.a v cin) true) = sub cin v (BitVec.ofNat 16 len) cost := by
    rw [sub8_eq]; rfl
  refine ⟨fun _ _ _ _ => rfl, fun op _ => encode_ofAlu op, fun r => ?reg, ?hl, fun n => ?imm⟩
  case reg =>
    have run (op : AluOp) := exec_ofAluReg op r s
    exact ⟨(run .add).trans (sum false _ 1 4), (run .adc).trans (sum cy _ 1 4),
      (run .sub).trans (diff false _ 1 4), (run .sbc).trans (diff cy _ 1 4)⟩
  case hl => exact ⟨sum false m 1 8, sum cy m 1 8, diff false m 1 8, diff cy m 1 8⟩
  case imm => exact ⟨sum false n 2 8, sum cy n 2 8, diff false n 2 8, diff cy n 2 8⟩

/-- Settles O12: the logic operations write their value and fixed carries, and CP the flags of the difference (`sub8_eq`). -/
theorem logicCompareResults : Obligations.LogicCompareResults := by
  intro s put compare m
  have diff (v : Byte) (len cost : Nat) :
      .next (aluOn .cp v (s.advance len cost)) = compare v (BitVec.ofNat 16 len) cost := by
    rw [aluOn, State.advance_a, sub8_noBorrow]; rfl
  refine ⟨fun op _ => encode_ofAlu op, fun r => ?reg, ⟨rfl, rfl, rfl, diff m 1 8⟩, fun n => ⟨rfl, rfl, rfl, diff n 2 8⟩⟩
  case reg =>
    have run (op : AluOp) := exec_ofAluReg op r s
    exact ⟨run .and, run .xor, run .or, (run .cp).trans (diff (s.reg r) 1 4)⟩

/-- Settles O13: both counts keep the carry, for a register and for the byte at HL. -/
theorem byteCountResults : Obligations.ByteCountResults := by
  intro s hl m incF decF
  exact ⟨⟨fun r => ⟨encode_ofInc r, encode_ofDec r⟩, rfl, rfl⟩,
    fun r => ⟨(exec_ofInc r s).trans (incReg_eq r s), (exec_ofDec r s).trans (decReg_eq r s)⟩,
    exec_inc_atHL_eq s, exec_dec_atHL_eq s⟩

/-- Settles O14: DAA by its correction (`daaAdjust_eq`), and CPL's mask complements. -/
theorem accumulatorAdjustResults : Obligations.AccumulatorAdjustResults := by
  intro s z n half cy high low fix res
  refine ⟨⟨rfl, rfl, rfl, rfl⟩, ?daa, ?cpl, rfl, rfl⟩
  case daa =>
    change exec_daa s = _
    rw [exec_daa, daaAdjust_eq]
    rfl
  case cpl =>
    change exec_cpl s = _
    rw [exec_cpl, show s.a ^^^ 0xFF = ~~~s.a from BitVec.xor_allOnes]
    rfl

end

section
/-! PROOFS. The 16-bit arithmetic (43_alu16.md): the word sum with its carries, the instructions by their pair, and each family's
result with the program counter and the cost written out (O15). -/

namespace Sys2Proof.Machine

theorem setPair_advance (s : State) (n k : Nat) (p : RegPair) (v : Word) :
    (s.advance n k).setPair p v = { s.setPair p v with pc := s.pc + BitVec.ofNat 16 n, cycles := k } := by
  cases p <;> rfl

/-- The carries out of bits 11 and 15 (R250). -/
theorem add16_eq (x y : Word) : add16 x y =
    ⟨x + y, decide (x.toNat % 0x1000 + y.toNat % 0x1000 > 0x0FFF), decide (x.toNat + y.toNat > 0xFFFF)⟩ := by
  rw [add16, BitVec.ofNat_add, BitVec.ofNat_toNat, BitVec.ofNat_toNat, BitVec.setWidth_eq, BitVec.setWidth_eq]

section
variable (p : RegPair) (s : State)

/-! The instructions by their pair. -/

@[simp] theorem encode_ofAddHL : encode (.ofAddHL p) = [0b00#2 ++ p.field ++ 0b1001#4] := by cases p <;> rfl
@[simp] theorem encode_ofIncPair : encode (.ofIncPair p) = [0b00#2 ++ p.field ++ 0b0011#4] := by cases p <;> rfl
@[simp] theorem encode_ofDecPair : encode (.ofDecPair p) = [0b00#2 ++ p.field ++ 0b1011#4] := by cases p <;> rfl

theorem exec_ofAddHL : exec (.ofAddHL p) s = addHLPair p s := by cases p <;> rfl
theorem exec_ofIncPair : exec (.ofIncPair p) s = incPair p s := by cases p <;> rfl
theorem exec_ofDecPair : exec (.ofDecPair p) s = decPair p s := by cases p <;> rfl

/-! The families' results. -/

theorem addHLPair_eq : addHLPair p s = .next { s with
    h := highByte (s.hl + s.pair p)
    l := lowByte (s.hl + s.pair p)
    f := flagsByte (bitOf s.f 7) false (decide (s.hl.toNat % 0x1000 + (s.pair p).toNat % 0x1000 > 0x0FFF))
      (decide (s.hl.toNat + (s.pair p).toNat > 0xFFFF))
    pc := s.pc + 1
    cycles := 8 } := by
  rw [addHLPair, add16_eq]
  rfl

theorem incPair_eq : incPair p s = .next { s.setPair p (s.pair p + 1) with pc := s.pc + 1, cycles := 8 } :=
  congrArg Host.Outcome.next (setPair_advance s 1 8 p _)

theorem decPair_eq : decPair p s = .next { s.setPair p (s.pair p - 1) with pc := s.pc + 1, cycles := 8 } :=
  congrArg Host.Outcome.next (setPair_advance s 1 8 p _)

end

end Sys2Proof.Machine

open Sys2Proof Sys2Proof.Machine

/-- Settles O15: each instruction is its family at its pair, and ADD HL takes its carries from the word sum (`add16_eq`). -/
theorem pairArithmeticResults : Obligations.PairArithmeticResults := by
  intro s hl
  refine ⟨fun p => ⟨encode_ofAddHL p, encode_ofIncPair p, encode_ofDecPair p⟩, fun p => ?add, fun p => ?inc, fun p => ?dec⟩
  case add => exact (exec_ofAddHL p s).trans (addHLPair_eq p s)
  case inc => exact (exec_ofIncPair p s).trans (incPair_eq p s)
  case dec => exact (exec_ofDecPair p s).trans (decPair_eq p s)

end

section
/-! PROOFS. The rotates, the shifts and the single-bit instructions (44_rotate_shift_bit.md): the operations on a byte as moves of
its bits, the instructions by their operand, and each family's result with the program counter and the cost written out
(O16 to O18). -/

namespace Sys2Proof.Machine

/-! A shift that fills the vacated end is a concatenation. -/

theorem shiftLeft_or_low {m n : Nat} (v : BitVec (m + n)) (low : BitVec n) :
    v <<< n ||| (0#m ++ low) = v.extractLsb' 0 m ++ low := by
  refine BitVec.eq_of_getLsbD_eq fun i hi => ?_
  rw [BitVec.getLsbD_or, BitVec.getLsbD_append, BitVec.getLsbD_append, BitVec.getLsbD_shiftLeft]
  by_cases h : i < n
  · simp [h]
  · simp [h, hi, show i - n < m by omega]

theorem ushiftRight_or_high {m n : Nat} (v : BitVec (m + n)) (high : BitVec m) :
    v >>> m ||| (high ++ 0#n) = high ++ v.extractLsb' m n := by
  refine BitVec.eq_of_getLsbD_eq fun i hi => ?_
  rw [BitVec.getLsbD_or, BitVec.getLsbD_append, BitVec.getLsbD_append, BitVec.getLsbD_ushiftRight]
  by_cases h : i < n
  · simp [h]
  · simp [h, BitVec.getLsbD_of_ge v (m + i) (by omega)]

/-! R260's operations as moves of bits; the bit moved out is the model's own. -/

section
variable (v : Byte) (cin : Bool)

theorem rl8_eq : rl8 v cin = (v.extractLsb' 0 7 ++ BitVec.ofBool cin, bitOf v 7) := by
  have low : (if cin then 0x01 else 0x00 : Byte) = 0#7 ++ BitVec.ofBool cin := by cases cin <;> rfl
  rw [rl8, low]
  exact congrArg (·, bitOf v 7) (shiftLeft_or_low (m := 7) v (BitVec.ofBool cin))

theorem rr8_eq : rr8 v cin = (BitVec.ofBool cin ++ v.extractLsb' 1 7, bitOf v 0) := by
  have high : (if cin then 0x80 else 0x00 : Byte) = BitVec.ofBool cin ++ 0#7 := by cases cin <;> rfl
  rw [rr8, high]
  exact congrArg (·, bitOf v 0) (ushiftRight_or_high (n := 7) v (BitVec.ofBool cin))

theorem sla8_eq : sla8 v = (v + v, bitOf v 7) := by
  rw [sla8, BitVec.shiftLeft_eq_mul_twoPow, show BitVec.twoPow 8 1 = 2#8 from rfl, BitVec.mul_two]

/-- The arithmetic shift keeps bit 7 (R276) and moves every lower bit down. -/
theorem sra8_eq : sra8 v = (v.sshiftRight 1, bitOf v 0) := by
  have signBit (i : Nat) : (0x80 : Byte).getLsbD i = decide (7 = i) := BitVec.getLsbD_twoPow 7 i
  refine Prod.ext (BitVec.eq_of_getLsbD_eq fun i hi => ?_) rfl
  rw [BitVec.getLsbD_sshiftRight, sra8, BitVec.getLsbD_or, BitVec.getLsbD_ushiftRight, BitVec.getLsbD_and, signBit]
  by_cases top : 7 = i
  · subst top
    have above : v.getLsbD (1 + 7) = false := BitVec.getLsbD_of_ge v 8 (Nat.le_refl 8)
    have sign : v.msb = v.getLsbD 7 := BitVec.msb_eq_getLsbD_last v
    simp only [above, sign, decide_true, Bool.and_true, Bool.false_or]
    rfl
  · have lower : 1 + i < 8 := by omega
    simp only [top, lower, if_true, decide_false, Bool.and_false, Bool.or_false, decide_eq_false (Nat.not_le.mpr hi),
      Bool.not_false, Bool.true_and]

theorem swap8_eq : swap8 v = (v.extractLsb' 0 4 ++ v.extractLsb' 4 4, false) := by
  have low : v >>> 4 = 0#4 ++ v.extractLsb' 4 4 := BitVec.ushiftRight_eq_extractLsb'_of_lt (by decide)
  rw [swap8, low]
  exact congrArg (·, false) (shiftLeft_or_low (m := 4) (n := 4) v (v.extractLsb' 4 4))

end

/-! RES and SET change only the bit they name. -/

theorem getLsbD_bitMask (k : Bit3) (j : Nat) : ((1 : Byte) <<< k.toNat).getLsbD j = decide (j = k.toNat) := by
  have inByte : k.toNat < 8 := by cases k <;> decide
  calc ((1 : Byte) <<< k.toNat).getLsbD j
    _ = (decide (k.toNat < 8) && decide (k.toNat = j)) := BitVec.getLsbD_twoPow k.toNat j
    _ = decide (j = k.toNat) := by simp [inByte, eq_comm]

theorem getLsbD_clearBit (k : Bit3) (v : Byte) (j : Nat) :
    (clearBit k v).getLsbD j = if j = k.toNat then false else v.getLsbD j := by
  have complement : (0xFF : Byte) ^^^ ((1 : Byte) <<< k.toNat) = ~~~((1 : Byte) <<< k.toNat) := BitVec.allOnes_xor
  rw [clearBit, complement, BitVec.getLsbD_and, BitVec.getLsbD_not, getLsbD_bitMask]
  by_cases h : j = k.toNat
  · simp [h]
  · simpa [h] using BitVec.lt_of_getLsbD

theorem getLsbD_raiseBit (k : Bit3) (v : Byte) (j : Nat) :
    (raiseBit k v).getLsbD j = if j = k.toNat then true else v.getLsbD j := by
  rw [raiseBit, BitVec.getLsbD_or, getLsbD_bitMask]
  by_cases h : j = k.toNat <;> simp [h]

section
variable (op : RotOp) (r : Reg8) (k : Bit3) (s : State)

/-! The instructions by their operand. -/

theorem exec_ofRot : exec (.ofRot op r) s = rotateReg op r s := by cases op <;> cases r <;> rfl
theorem exec_ofRotHL : exec (.ofRotHL op) s = rotateHL op s := by cases op <;> rfl
theorem exec_ofBit : exec (.ofBit k r) s = bitTestReg k r s := by cases k <;> cases r <;> rfl
theorem exec_ofBitHL : exec (.ofBitHL k) s = bitTestHL k s := by cases k <;> rfl
theorem exec_ofRes : exec (.ofRes k r) s = bitResetReg k r s := by cases k <;> cases r <;> rfl
theorem exec_ofResHL : exec (.ofResHL k) s = bitResetHL k s := by cases k <;> rfl
theorem exec_ofSet : exec (.ofSet k r) s = bitSetReg k r s := by cases k <;> cases r <;> rfl
theorem exec_ofSetHL : exec (.ofSetHL k) s = bitSetHL k s := by cases k <;> rfl

/-! The families' results. -/

theorem rotateReg_eq {x : Byte × Bool} (result : rotate8 op (s.reg r) (bitOf s.f 4) = x) :
    rotateReg op r s = .next { s.setReg r x.1 with
      f := flagsByte (decide (x.1 = 0)) false false x.2
      pc := s.pc + 2
      cycles := 8 } := by
  subst result
  exact congrArg (fun t => Host.Outcome.next (State.setFlags t _ false false _)) (setReg_advance s 2 8 r _)

theorem rotateHL_eq {x : Byte × Bool} (result : rotate8 op (busRead s s.hl) (bitOf s.f 4) = x) :
    rotateHL op s = .next { busWrite s s.hl x.1 with
      f := flagsByte (decide (x.1 = 0)) false false x.2
      pc := s.pc + 2
      cycles := 16 } := by
  subst result
  exact congrArg (fun t => Host.Outcome.next (State.setFlags t _ false false _)) (memWrite_advance s 2 16 s.hl _)

theorem bitTestReg_eq : bitTestReg k r s = .next { s with
    f := flagsByte (!(s.reg r).getLsbD k.toNat) false true (bitOf s.f 4), pc := s.pc + 2, cycles := 8 } := rfl

theorem bitTestHL_eq : bitTestHL k s = .next { s with
    f := flagsByte (!(busRead s s.hl).getLsbD k.toNat) false true (bitOf s.f 4), pc := s.pc + 2, cycles := 12 } := rfl

theorem bitResetReg_eq :
    bitResetReg k r s = .next { s.setReg r (clearBit k (s.reg r)) with pc := s.pc + 2, cycles := 8 } :=
  congrArg Host.Outcome.next (setReg_advance s 2 8 r _)

theorem bitSetReg_eq :
    bitSetReg k r s = .next { s.setReg r (raiseBit k (s.reg r)) with pc := s.pc + 2, cycles := 8 } :=
  congrArg Host.Outcome.next (setReg_advance s 2 8 r _)

theorem bitResetHL_eq :
    bitResetHL k s = .next { busWrite s s.hl (clearBit k (busRead s s.hl)) with pc := s.pc + 2, cycles := 16 } :=
  congrArg Host.Outcome.next (memWrite_advance s 2 16 s.hl _)

theorem bitSetHL_eq :
    bitSetHL k s = .next { busWrite s s.hl (raiseBit k (busRead s s.hl)) with pc := s.pc + 2, cycles := 16 } :=
  congrArg Host.Outcome.next (memWrite_advance s 2 16 s.hl _)

end

end Sys2Proof.Machine

open Sys2Proof Sys2Proof.Machine

/-- Settles O16: the model's operations are the moves of bits (`rl8_eq` to `swap8_eq`; the two plain rotates and SRL are so by
definition), and every form runs its operation on its operand. -/
theorem rotateShiftResults : Obligations.RotateShiftResults := by
  intro s cy result onA flags hl
  have moves (op : RotOp) (v : Byte) : rotate8 op v cy = result op v := by
    cases op with
    | rlc | rrc | srl => rfl
    | rl => exact rl8_eq v cy
    | rr => exact rr8_eq v cy
    | sla => exact sla8_eq v
    | sra => exact sra8_eq v
    | swap => exact swap8_eq v
  have accumulator (op : RotOp) : rotateA (rotate8 op s.a cy) s = onA (result op s.a) := by
    rw [moves]; rfl
  exact ⟨⟨⟨rfl, rfl, rfl, rfl⟩, fun op r => encode_ofRot r op, encode_ofRotHL⟩,
    ⟨accumulator .rlc, accumulator .rrc, accumulator .rl, accumulator .rr⟩,
    fun op r => (exec_ofRot op r s).trans (rotateReg_eq op r s (moves op _)),
    fun op => (exec_ofRotHL op s).trans (rotateHL_eq op s (moves op _))⟩

/-- Settles O17: every BIT is the test of its bit, in a register or in the byte at HL. -/
theorem bitTestResults : Obligations.BitTestResults := by
  intro s k flags
  exact ⟨⟨fun r => encode_ofBit r k, encode_ofBitHL k⟩,
    fun r => (exec_ofBit r k s).trans (bitTestReg_eq r k s),
    (exec_ofBitHL k s).trans (bitTestHL_eq k s)⟩

/-- Settles O18: the byte is RES's or SET's, which differs in no other bit (`getLsbD_clearBit`, `getLsbD_raiseBit`). -/
theorem bitSetResetResults : Obligations.BitSetResetResults := by
  intro s k put hl
  have cleared (v : Byte) : put v false (clearBit k v) := fun j _ => getLsbD_clearBit k v j
  have raised (v : Byte) : put v true (raiseBit k v) := fun j _ => getLsbD_raiseBit k v j
  refine ⟨⟨fun r => ⟨encode_ofRes r k, encode_ofSet r k⟩, encode_ofResHL k, encode_ofSetHL k⟩,
    fun r b => ?reg, fun b => ?hl⟩
  case reg =>
    cases b with
    | false => exact ⟨_, cleared _, (exec_ofRes r k s).trans (bitResetReg_eq r k s)⟩
    | true => exact ⟨_, raised _, (exec_ofSet r k s).trans (bitSetReg_eq r k s)⟩
  case hl =>
    cases b with
    | false => exact ⟨_, cleared _, (exec_ofResHL k s).trans (bitResetHL_eq k s)⟩
    | true => exact ⟨_, raised _, (exec_ofSetHL k s).trans (bitSetHL_eq k s)⟩

end

section
/-! PROOFS. The control transfers (45_control.md): the instructions by their condition, and what a conditional jump, a call and a
return do, with the program counter and the cost written out (O19 to O21). -/

namespace Sys2Proof.Machine

section
variable (cc : Cond) (nn : Word) (e : Byte) (k : Bit3) (s : State)

/-! The instructions by their condition, and RST by its target. -/

@[simp] theorem encode_ofJp : encode (.ofJp cc nn) = [0b110#3 ++ cc.field ++ 0b010#3, lowByte nn, highByte nn] := by
  cases cc <;> rfl
@[simp] theorem encode_ofJr : encode (.ofJr cc e) = [0b001#3 ++ cc.field ++ 0b000#3, e] := by cases cc <;> rfl
@[simp] theorem encode_ofCall : encode (.ofCall cc nn) = [0b110#3 ++ cc.field ++ 0b100#3, lowByte nn, highByte nn] := by
  cases cc <;> rfl
@[simp] theorem encode_ofRet : encode (.ofRet cc) = [0b110#3 ++ cc.field ++ 0b000#3] := by cases cc <;> rfl
@[simp] theorem encode_ofRst : encode (.ofRst k) = [0b11#2 ++ k.field ++ 0b111#3] := by cases k <;> rfl

theorem exec_ofJp : exec (.ofJp cc nn) s = jpCond cc nn s := by cases cc <;> rfl
theorem exec_ofJr : exec (.ofJr cc e) s = jrCond cc e s := by cases cc <;> rfl
theorem exec_ofCall : exec (.ofCall cc nn) s = callCond cc nn s := by cases cc <;> rfl
theorem exec_ofRet : exec (.ofRet cc) s = retCond cc s := by cases cc <;> rfl

end

/-! What the families do. -/

/-- A jump on a condition writes only the program counter and the cost, whichever way it goes. -/
theorem jumpIf_eq (s : State) (taken : Bool) (target : Word) (len costTaken cost : Nat) :
    (if taken then .next ((s.advance len costTaken).jump target) else .next (s.advance len cost) : Result) =
      .next { s with
        pc := if taken then target else s.pc + BitVec.ofNat 16 len, cycles := if taken then costTaken else cost } := by
  cases taken with
  | true => rfl
  | false => rfl

/-- A call pushes the address after its own bytes; of the fetch its stores depend on nothing else (`push16_advance`). -/
theorem callTo_eq (target : Word) (len cost : Nat) (s : State) : callTo target len cost s =
    let ret := s.pc + BitVec.ofNat 16 len
    { busWrite (busWrite s (s.sp - 2) (lowByte ret)) (s.sp - 1) (highByte ret) with
      sp := s.sp - 2, pc := target, cycles := cost } := by
  rw [callTo, push16_advance, State.memWrite16, sp_sub_two_add_one]
  rfl

/-- A return goes to whatever two bytes lie at SP; of the fetch it keeps the cost alone. -/
theorem returnFromCall_advance (s : State) (len cost : Nat) : returnFromCall (s.advance len cost) =
    { s with pc := joinBytes (busRead s (s.sp + 1)) (busRead s s.sp), sp := s.sp + 2, cycles := cost } := rfl

end Sys2Proof.Machine

open Sys2Proof Sys2Proof.Machine

/-- Settles O19: the condition of F is `State.holds`, and both conditional jumps are `jumpIf_eq` with their own target. -/
theorem jumpResults : Obligations.JumpResults := by
  intro s nn e holds
  refine ⟨⟨rfl, rfl, rfl, fun cc => ⟨encode_ofJp cc nn, encode_ofJr cc e⟩⟩, rfl, rfl, rfl, fun cc => ?jp, fun cc => ?jr⟩
  case jp => exact (exec_ofJp cc nn s).trans (jumpIf_eq s (s.holds cc) nn 3 16 12)
  case jr => exact (exec_ofJr cc e s).trans (jumpIf_eq s (s.holds cc) (relativeTarget s e) 2 12 8)

/-- Settles O20: every call taken, RST included, is `callTo_eq`; one not taken leaves SP and memory alone. -/
theorem callResults : Obligations.CallResults := by
  intro s nn holds call
  have called (target : Word) (len cost : Nat) :
      .next (callTo target len cost s) = call target (s.pc + BitVec.ofNat 16 len) cost :=
    congrArg Host.Outcome.next (callTo_eq target len cost s)
  refine ⟨⟨rfl, fun cc => encode_ofCall cc nn, encode_ofRst⟩, called nn 3 24, fun cc => ?cond, fun k => ?rst⟩
  case cond =>
    rw [exec_ofCall, callCond, called nn 3 24]
    rfl
  case rst => exact (exec_ofRst k s).trans (called _ 1 16)

/-- Settles O21: every return taken is `returnFromCall_advance`, after which RETI sets ime; one not taken only moves on. -/
theorem returnResults : Obligations.ReturnResults := by
  intro s holds target
  refine ⟨⟨rfl, rfl, encode_ofRet⟩, ?ret, ?reti, fun cc => ?cond⟩
  case ret => exact congrArg Host.Outcome.next (returnFromCall_advance s 1 16)
  case reti => exact congrArg (fun t => Host.Outcome.next { t with ime := true }) (returnFromCall_advance s 1 16)
  case cond =>
    rw [exec_ofRet, retCond, returnFromCall_advance]
    rfl

end

section
/-! PROOFS. The phases of the display (R402 to R412, R416): what one event of the display controller ends and begins, said
once for all modes, with the interrupts that it raises (O49); and the write of LCDC (O42). -/

namespace Sys2Proof.Machine

/-! The write of LCDC (R77, R413, R414). -/

section
variable {s : State} {v : Byte}

theorem busWrite_lcdc : busWrite s 0xFF40 v = writeLcdc s v := by
  have offset : (0xFF40 : Word).toNat - 0xFF00 = offLCDC := by decide
  rw [busWrite_io (by decide) (by decide), offset, ioWrite, if_neg (by decide), if_neg (by decide), if_pos rfl]

theorem writeLcdc_off (on : s.displayOn = true) (off : bitOf v 7 = false) : writeLcdc s v = { s with
    io := Memory.write (Memory.write s.io 0x40 v) 0x44 0, mode := .hBlank, wlc := 0
    entries := dropPpuEvents s.entries } := by
  simp only [writeLcdc, on, off, Bool.not_false, Bool.and_self, if_true]
  rfl

theorem writeLcdc_on (off : s.displayOn = false) (on : bitOf v 7 = true) : writeLcdc s v = schedPush { s with
    io := Memory.write (Memory.write s.io 0x40 v) 0x44 0, mode := .oamScan, wlc := 0 } (s.now + 80) .ppu := by
  simp only [writeLcdc, on, off, Bool.not_true, Bool.not_false, Bool.and_self, Bool.false_eq_true, if_true, if_false]
  rfl

theorem writeLcdc_same (same : s.displayOn = bitOf v 7) : writeLcdc s v = s.setIo 0x40 v := by
  simp only [writeLcdc, same, Bool.and_not_self, Bool.not_and_self, Bool.false_eq_true, if_false]
  rfl

end

/-! The phases. -/

/-- The length of a phase in cycles; of VBlank, that of one line (R416). -/
def phaseLength : PpuMode → Nat
  | .oamScan => 80
  | .pixelTransfer => 172
  | .hBlank => 204
  | .vBlank => 456

/-- The mode that follows (R404 to R407). -/
def State.nextMode (s : State) : PpuMode :=
  match s.mode with
  | .oamScan => .pixelTransfer
  | .pixelTransfer => .hBlank
  | .hBlank => if s.ly = 143 then .vBlank else .oamScan
  | .vBlank => if s.ly = 153 then .oamScan else .vBlank

/-- The value that LY takes where the end of the phase ends a line (R406, R407). -/
def State.newLine (s : State) : Option Byte :=
  match s.mode with
  | .hBlank => some (s.ly + 1)
  | .vBlank => some (if s.ly = 153 then 0 else s.ly + 1)
  | _ => none

/-- The window-line counter after the phase (R407, R432). -/
def State.nextWlc (s : State) : Nat :=
  match s.mode with
  | .oamScan => (renderScanline s).wlc
  | .pixelTransfer => s.wlc
  | .hBlank => s.wlc
  | .vBlank => if s.ly = 153 then 0 else s.wlc

/-- VBlank begins with the end of the phase (R406). -/
def State.entersVBlank (s : State) : Bool := s.mode == .hBlank && s.ly == 143

/-- OAM-scan begins with the end of the phase (R406, R407). -/
def State.entersOam (s : State) : Bool := (s.mode == .hBlank && s.ly != 143) || (s.mode == .vBlank && s.ly == 153)

/-- An enabled STAT source fires at the end of the phase (R405, R408 to R412). -/
def State.statFires (s : State) : Bool :=
  (s.mode == .pixelTransfer && bitOf s.statStored 3) || (s.entersVBlank && bitOf s.statStored 4)
    || (s.entersOam && bitOf s.statStored 5) || (decide (s.newLine = some s.lyc) && bitOf s.statStored 6)

/-- The two interrupt flags of the display as bits of IF (R403, R408). -/
def displayFlags (vblank stat : Bool) : Byte := (if vblank then 0x01 else 0) ||| (if stat then 0x02 else 0)

/-- `v` is `s` with its display phase ended and the next one begun, the push of the next event apart. -/
structure PhaseEnds (s v : State) : Prop where
  state : v = { s with
    io := v.io, mode := s.nextMode, wlc := s.nextWlc
    bgidx := if s.mode = .oamScan then (renderScanline s).bgidx else s.bgidx
    fb := if s.mode = .oamScan then (renderScanline s).fb else s.fb }
  line : v.ly = s.newLine.getD s.ly
  flags : v.ifReg = s.ifReg ||| displayFlags s.entersVBlank s.statFires
  ioOther : ∀ k, k ≠ 0x0F → k ≠ 0x44 → Memory.read v.io k = Memory.read s.io k
  ioCanonical : Memory.wf ioSize v.io = true

theorem displayFlags_stat (q : Bool) : displayFlags false q = if q then 0x02 else 0 := by cases q <;> rfl

@[simp] theorem or_displayFlags_none (b : Byte) : b ||| displayFlags false false = b := BitVec.or_zero

/-- Flags raised one after the other are raised together. -/
theorem or_displayFlags_or (b : Byte) (p q p' q' : Bool) :
    b ||| displayFlags p q ||| displayFlags p' q' = b ||| displayFlags (p || p') (q || q') := by
  rw [BitVec.or_assoc]
  congr 1
  revert p q p' q'
  decide

theorem getLsbD_displayFlags (vblank stat : Bool) (k : Nat) :
    (displayFlags vblank stat).getLsbD k = ((decide (k = 0) && vblank) || (decide (k = 1) && stat)) := by
  have mask (p : Bool) (m : Byte) : (if p then m else 0).getLsbD k = (p && m.getLsbD k) := by cases p <;> simp
  have bit0 : (0x01 : Byte).getLsbD k = decide (k = 0) := by simp
  have bit1 : (0x02 : Byte).getLsbD k = decide (k = 1) := (BitVec.getLsbD_twoPow 1 k).trans (by simp [eq_comm])
  rw [displayFlags, BitVec.getLsbD_or, mask, mask, bit0, bit1, Bool.and_comm, Bool.and_comm stat]

section
variable {s : State} (w : Memory.wf ioSize s.io = true)
include w

theorem setLy_ly (v : Byte) : (setLy s v).ly = v := read_setLy_ly w

theorem setLy_ifReg (v : Byte) :
    (setLy s v).ifReg = s.ifReg ||| displayFlags false (decide (v = s.lyc) && bitOf s.statStored 6) := by
  simp only [displayFlags_stat, Bool.and_eq_true, decide_eq_true_eq]
  exact read_setLy_if w

theorem statIrq_ifReg (k : Nat) : (statIrq s k).ifReg = s.ifReg ||| displayFlags false (bitOf s.statStored k) := by
  rw [displayFlags_stat]
  exact read_statIrq w

theorem raiseIf_vblank_ifReg : (s.raiseIf 0x01).ifReg = s.ifReg ||| displayFlags true false := read_raiseIf w

omit w in
theorem setLy_statStored (v : Byte) : (setLy s v).statStored = s.statStored := read_setLy_other (by decide) (by decide)

/-! Mode by mode, the state that the event leaves to be pushed. -/

theorem phaseEnds_oamScan (mode : s.mode = .oamScan) : PhaseEnds s (renderScanline { s with mode := .pixelTransfer }) where
  state := by simp only [State.nextMode, State.nextWlc, mode, if_true]; rfl
  line := by simp only [State.newLine, mode]; rfl
  flags := by
    simp [State.entersVBlank, State.entersOam, State.statFires, State.newLine, mode, beq_eq_decide]
    rfl
  ioOther _ _ _ := rfl
  ioCanonical := w

theorem phaseEnds_pixelTransfer (mode : s.mode = .pixelTransfer) : PhaseEnds s (statIrq { s with mode := .hBlank } 3) where
  state := by rw [statIrq_io_only]; simp [State.nextMode, State.nextWlc, mode]
  line := by simp only [State.newLine, mode]; exact read_statIrq_other (by decide)
  flags := by
    rw [statIrq_ifReg (by exact w)]
    simp [State.entersVBlank, State.entersOam, State.statFires, State.newLine, mode, beq_eq_decide]
    rfl
  ioOther _ h _ := read_statIrq_other h
  ioCanonical := statIrq_wf w

theorem phaseEnds_hBlank (mode : s.mode = .hBlank) (line : s.ly ≠ 143#8) :
    PhaseEnds s (statIrq { setLy s (s.ly + 1) with mode := .oamScan } 5) where
  state := by rw [statIrq_io_only, setLy_io_only]; simp [State.nextMode, State.nextWlc, mode, line]
  line := by simp only [State.newLine, mode]; exact (read_statIrq_other (by decide)).trans (setLy_ly w _)
  flags := by
    rw [statIrq_ifReg (by exact setLy_wf w)]
    show (setLy s _).ifReg ||| displayFlags false (bitOf (setLy s _).statStored 5) = _
    rw [setLy_ifReg w, setLy_statStored, or_displayFlags_or]
    simp [State.entersVBlank, State.entersOam, State.statFires, State.newLine, mode, line, bne, beq_eq_decide, Bool.or_comm]
  ioOther _ h k := (read_statIrq_other h).trans (read_setLy_other h k)
  ioCanonical := statIrq_wf (setLy_wf w)

theorem phaseEnds_lastHBlank (mode : s.mode = .hBlank) (line : s.ly = 143) :
    PhaseEnds s (statIrq (State.raiseIf { setLy s (s.ly + 1) with mode := .vBlank } 0x01) 4) where
  state := by rw [statIrq_io_only, setLy_io_only]; simp only [State.nextMode, State.nextWlc, mode, if_pos line]; rfl
  line := by
    simp only [State.newLine, mode]
    exact (read_statIrq_other (by decide)).trans ((read_raiseIf_other (by decide)).trans (setLy_ly w _))
  flags := by
    have stat : (State.raiseIf { setLy s (s.ly + 1) with mode := .vBlank } 0x01).statStored = s.statStored :=
      (read_raiseIf_other (by decide)).trans (setLy_statStored _)
    rw [statIrq_ifReg (raiseIf_wf (by exact setLy_wf w)), raiseIf_vblank_ifReg (by exact setLy_wf w), stat]
    show (setLy s _).ifReg ||| _ ||| _ = _
    rw [setLy_ifReg w, or_displayFlags_or, or_displayFlags_or]
    simp [State.entersVBlank, State.entersOam, State.statFires, State.newLine, mode, line, beq_eq_decide, Bool.or_comm]
  ioOther _ h k := (read_statIrq_other h).trans ((read_raiseIf_other h).trans (read_setLy_other h k))
  ioCanonical := statIrq_wf (raiseIf_wf (by exact setLy_wf w))

theorem phaseEnds_vBlankLine (mode : s.mode = .vBlank) (line : s.ly ≠ 153#8) : PhaseEnds s (setLy s (s.ly + 1)) where
  state := by rw [setLy_io_only]; simp [State.nextMode, State.nextWlc, mode, line]
  line := by simpa [State.newLine, mode, line] using setLy_ly w _
  flags := by
    rw [setLy_ifReg w]
    simp [State.entersVBlank, State.entersOam, State.statFires, State.newLine, mode, line, beq_eq_decide]
  ioOther _ h k := read_setLy_other h k
  ioCanonical := setLy_wf w

theorem phaseEnds_lastLine (mode : s.mode = .vBlank) (line : s.ly = 153) :
    PhaseEnds s (statIrq { setLy s 0 with wlc := 0, mode := .oamScan } 5) where
  state := by rw [statIrq_io_only, setLy_io_only]; simp only [State.nextMode, State.nextWlc, mode, if_pos line]; rfl
  line := by simp only [State.newLine, mode, if_pos line]; exact (read_statIrq_other (by decide)).trans (setLy_ly w _)
  flags := by
    rw [statIrq_ifReg (by exact setLy_wf w)]
    show (setLy s _).ifReg ||| displayFlags false (bitOf (setLy s _).statStored 5) = _
    rw [setLy_ifReg w, setLy_statStored, or_displayFlags_or]
    simp [State.entersVBlank, State.entersOam, State.statFires, State.newLine, mode, line, beq_eq_decide, Bool.or_comm]
  ioOther _ h k := (read_statIrq_other h).trans (read_setLy_other h k)
  ioCanonical := statIrq_wf (by exact setLy_wf w)

/-- With the display on, an event ends the phase and pushes the event that ends the next one (R403 to R407, R416). -/
theorem ppuEvent_on (t : Nat) (on : s.displayOn = true) :
    ∃ v, PhaseEnds s v ∧ ppuEvent t s = schedPush v (t + phaseLength s.nextMode) .ppu := by
  rw [ppuEvent, if_pos on, State.nextMode]
  cases mode : s.mode with
  | oamScan => exact ⟨_, phaseEnds_oamScan w mode, rfl⟩
  | pixelTransfer => exact ⟨_, phaseEnds_pixelTransfer w mode, rfl⟩
  | hBlank =>
    have line : (setLy s (s.ly + 1)).ly = 144 ↔ s.ly = 143 := by rw [setLy_ly w]; bv_omega
    by_cases last : s.ly = 143
    · refine ⟨_, phaseEnds_lastHBlank w mode last, ?_⟩
      simp only [endHBlank, if_pos (line.mpr last), if_pos last]
      rfl
    · refine ⟨_, phaseEnds_hBlank w mode last, ?_⟩
      simp only [endHBlank, if_neg (mt line.mp last), if_neg last]
      rfl
  | vBlank =>
    by_cases last : s.ly = 153
    · refine ⟨_, phaseEnds_lastLine w mode last, ?_⟩
      simp only [endVBlankLine, if_pos last]
      rfl
    · refine ⟨_, phaseEnds_vBlankLine w mode last, ?_⟩
      simp only [endVBlankLine, if_neg last]
      rfl

end

theorem ppuEvent_off {s : State} (t : Nat) (off : s.displayOn = false) : ppuEvent t s = s := by
  rw [ppuEvent, off]
  rfl

end Sys2Proof.Machine

open Sys2Proof Sys2Proof.Machine

/-- Settles O42: the store is `writeLcdc`, whose two side effects need bit 7 to change. -/
theorem displaySwitch : Obligations.DisplaySwitch := by
  intro s v lcdc
  rw [busWrite_lcdc]
  exact ⟨writeLcdc_off, writeLcdc_on, writeLcdc_same⟩

/-- Settles O49: with the display on the event is a phase's end (`ppuEvent_on`), whose push leaves the I/O bytes alone. -/
theorem displayInterrupts : Obligations.DisplayInterrupts := by
  intro s t w u stat ly lyc flags after newLine entersVBlank entersOam
  refine ⟨ppuEvent_off t, fun on => ?_⟩
  obtain ⟨v, ends, pushed⟩ := ppuEvent_on w t on
  have io : u.io = v.io := (congrArg State.io pushed).trans (schedPush_io _ _ _)
  have raised (k : Nat) : after.getLsbD k = (flags.getLsbD k
      || ((decide (k = 0) && s.entersVBlank) || (decide (k = 1) && s.statFires))) := by
    rw [← getLsbD_displayFlags, ← BitVec.getLsbD_or]
    exact congrArg (BitVec.getLsbD · k) ((congrArg (Memory.read · 0x0F) io).trans ends.flags)
  refine ⟨(congrArg (Memory.read · 0x44) io).trans ends.line, (raised 0).trans ?_, (raised 1).trans ?_, fun k low _ => ?_,
    fun k notIf notLy => (congrArg (Memory.read · k) io).trans (ends.ioOther k notIf notLy), ppuEvent_only t s⟩
  · simp
    rfl
  · simp only [one_ne_zero, decide_false, decide_true, Bool.false_and, Bool.true_and, Bool.false_or, State.statFires,
      Bool.or_assoc]
    rfl
  · rw [raised, decide_eq_false (by omega), decide_eq_false (by omega)]
    simp

end

section
/-! PROOFS. The timer (R374 to R377): what any number of DIV and TIMA increments come to (O46, O47); and the key event
(O55). -/

namespace Sys2Proof.Machine

section
variable {s : State} (w : Memory.wf ioSize s.io = true) (n : Nat)
include w

/-! Repeated increments. -/

theorem divTicks_wf : Memory.wf ioSize (Nat.repeat divTick n s).io = true := by
  induction n with
  | zero => exact w
  | succ n ih => exact divTick_wf ih

theorem read_divTicks :
    (Memory.read (Nat.repeat divTick n s).io 0x04).toNat = ((Memory.read s.io 0x04).toNat + n) % 256 := by
  induction n with
  | zero => exact (Nat.mod_eq_of_lt (BitVec.isLt _)).symm
  | succ n ih =>
    show (Memory.read (divTick _).io 0x04).toNat = _
    rw [read_divTick (divTicks_wf w n), BitVec.toNat_add, ih]
    simp only [BitVec.reduceToNat]
    omega

omit w in
theorem read_divTicks_other {k : Nat} (other : k ≠ 0x04) :
    Memory.read (Nat.repeat divTick n s).io k = Memory.read s.io k := by
  induction n with
  | zero => rfl
  | succ n ih => exact (read_divTick_other other).trans ih

theorem timaTicks_wf : Memory.wf ioSize (Nat.repeat timaTick n s).io = true := by
  induction n with
  | zero => exact w
  | succ n ih => exact timaTick_wf ih

omit w in
theorem read_timaTicks_other {k : Nat} (tima : k ≠ 0x05) (flag : k ≠ 0x0F) :
    Memory.read (Nat.repeat timaTick n s).io k = Memory.read s.io k := by
  induction n with
  | zero => rfl
  | succ n ih => exact (read_timaTick_other tima flag).trans ih

end

/-- TIMA after `n` increments from `tima`: it counts on from TMA after each overflow (R377). -/
def timaAfter (tima tma n : Nat) : Nat := if tima + n ≤ 255 then tima + n else tma + (tima + n - 256) % (256 - tma)

theorem timaAfter_succ {tima tma : Nat} (n : Nat) (tma_lt : tma < 256) :
    timaAfter tima tma (n + 1) = if timaAfter tima tma n = 255 then tma else timaAfter tima tma n + 1 := by
  by_cases running : tima + n ≤ 255
  · rw [timaAfter, timaAfter, if_pos running]
    by_cases last : tima + n = 255
    · rw [if_neg (by omega), if_pos last, show tima + (n + 1) - 256 = 0 by omega, Nat.zero_mod, Nat.add_zero]
    · rw [if_pos (by omega), if_neg last, Nat.add_assoc]
  · have step : tima + (n + 1) - 256 = (tima + n - 256) + 1 := by omega
    have bound := Nat.mod_lt (tima + n - 256) (show 256 - tma > 0 by omega)
    rw [timaAfter, timaAfter, if_neg running, if_neg (by omega), step, ← Nat.mod_add_mod]
    by_cases last : tma + (tima + n - 256) % (256 - tma) = 255
    · rw [if_pos last, show (tima + n - 256) % (256 - tma) + 1 = 256 - tma by omega, Nat.mod_self, Nat.add_zero]
    · rw [if_neg last, Nat.mod_eq_of_lt (show (tima + n - 256) % (256 - tma) + 1 < 256 - tma by omega), Nat.add_assoc]

theorem byte_full_iff (b : Byte) : b = 0xFF ↔ b.toNat = 255 := ⟨fun h => by rw [h]; rfl, fun h => BitVec.eq_of_toNat_eq h⟩

section
variable {s : State} (w : Memory.wf ioSize s.io = true) (n : Nat)
include w

theorem read_timaTicks : (Memory.read (Nat.repeat timaTick n s).io 0x05).toNat =
    timaAfter (Memory.read s.io 0x05).toNat (Memory.read s.io 0x06).toNat n := by
  have tima := (Memory.read s.io 0x05).isLt
  have tma := (Memory.read s.io 0x06).isLt
  induction n with
  | zero => exact (if_pos (by omega)).symm
  | succ n ih =>
    show (Memory.read (timaTick _).io 0x05).toNat = _
    rw [read_timaTick (timaTicks_wf w n), timaAfter_succ n tma, ← ih,
      read_timaTicks_other (k := 0x06) n (by decide) (by decide)]
    by_cases last : (Memory.read (Nat.repeat timaTick n s).io 0x05).toNat = 255
    · rw [if_pos ((byte_full_iff _).mpr last), if_pos last]
    · rw [if_neg (mt (byte_full_iff _).mp last), if_neg last]
      bv_omega

/-- IF bit 2 is set by the first overflow and stays. -/
theorem read_timaTicks_if : Memory.read (Nat.repeat timaTick n s).io 0x0F =
    if (Memory.read s.io 0x05).toNat + n ≤ 255 then Memory.read s.io 0x0F else Memory.read s.io 0x0F ||| 0x04 := by
  have tima := (Memory.read s.io 0x05).isLt
  induction n with
  | zero => exact (if_pos (by omega)).symm
  | succ n ih =>
    show Memory.read (timaTick _).io 0x0F = _
    have full := (byte_full_iff _).trans (by rw [read_timaTicks w n])
    rw [read_timaTick_if (timaTicks_wf w n), ih]
    by_cases running : (Memory.read s.io 0x05).toNat + n ≤ 255
    · rw [if_pos running]
      rw [timaAfter, if_pos running] at full
      by_cases last : (Memory.read s.io 0x05).toNat + n = 255
      · rw [if_pos (full.mpr last), if_neg (by omega)]
      · rw [if_neg (mt full.mp last), if_pos (by omega)]
    · rw [if_neg running, if_neg (by omega : ¬_ + (n + 1) ≤ 255), BitVec.or_assoc, BitVec.or_self, ite_self]

end

/-! The timer as a whole. -/

theorem OnlyIo.timaSub {s t : State} (h : OnlyIo s t) : t.timaSub = s.timaSub := by
  unfold OnlyIo at h
  rw [h]

theorem OnlyIo.divSub {s t : State} (h : OnlyIo s t) : t.divSub = s.divSub := by
  unfold OnlyIo at h
  rw [h]

/-- The DIV half touches neither TIMA's sub-counter nor any I/O byte but DIV. -/
theorem advanceDiv_timaSub (delta : Nat) (s : State) : (advanceDiv delta s).timaSub = s.timaSub :=
  (OnlyIo.repeat (f := divTick) (fun _ => rfl) _ s).timaSub

theorem read_advanceDiv_other (delta : Nat) (s : State) {k : Nat} (other : k ≠ 0x04) :
    Memory.read (advanceDiv delta s).io k = Memory.read s.io k := read_divTicks_other _ other

/-- The TIMA half touches no I/O byte but TIMA and IF. -/
theorem read_advanceTima_other (delta : Nat) (s : State) {k : Nat} (tima : k ≠ 0x05) (flag : k ≠ 0x0F) :
    Memory.read (advanceTima delta s).io k = Memory.read s.io k := by
  unfold advanceTima
  split
  · exact read_timaTicks_other _ tima flag
  · rfl

theorem read_timerAdvance_other (delta : Nat) (s : State) {k : Nat} (div : k ≠ 0x04) (tima : k ≠ 0x05) (flag : k ≠ 0x0F) :
    Memory.read (timerAdvance delta s).io k = Memory.read s.io k :=
  (read_advanceTima_other delta _ tima flag).trans (read_advanceDiv_other delta s div)

theorem timerAdvance_wf (delta : Nat) {s : State} (w : Memory.wf ioSize s.io = true) :
    Memory.wf ioSize (timerAdvance delta s).io = true := by
  have div : Memory.wf ioSize (advanceDiv delta s).io = true := divTicks_wf w _
  unfold timerAdvance advanceTima
  split
  · exact timaTicks_wf div _
  · exact div

/-- The TIMA half leaves DIV's sub-counter alone. -/
theorem timerAdvance_divSub (delta : Nat) (s : State) : (timerAdvance delta s).divSub = (s.divSub + delta) % 256 := by
  unfold timerAdvance advanceTima
  split
  · exact (OnlyIo.repeat OnlyIo.timaTick _ (advanceDiv delta s)).divSub
  · rfl

theorem timerPeriod_eq (s : State) : s.timerPeriod =
    let tac := (Memory.read s.io 0x07).toNat
    if tac % 4 = 0 then 1024 else if tac % 4 = 1 then 16 else if tac % 4 = 2 then 64 else 256 := by
  show (match (Memory.read s.io 0x07).toNat % 4 with
    | 0 => 1024
    | 1 => 16
    | 2 => 64
    | _ => 256) = _
  split
  next h => exact (if_pos h).symm
  next h => simp [h]
  next h => simp [h]
  next h0 h1 h2 => rw [if_neg h0, if_neg h1, if_neg h2]

end Sys2Proof.Machine

open Sys2Proof Sys2Proof.Machine

/-- Settles O46: DIV is its increments modulo 256 (`read_divTicks`), which the TIMA half leaves alone. -/
theorem divCounts : Obligations.DivCounts := by
  intro s delta w bound t
  have div : Memory.read t.io 0x04 = Memory.read (Nat.repeat divTick ((s.divSub + delta) / 256) s).io 0x04 :=
    read_advanceTima_other delta _ (by decide) (by decide)
  have sub : t.divSub = (s.divSub + delta) % 256 := timerAdvance_divSub delta s
  refine ⟨⟨?_, ?_⟩, timerAdvance_only delta s, fun k => read_timerAdvance_other delta s⟩
  · rw [div, sub, read_divTicks w]
    omega
  · rw [sub]
    omega

/-- Settles O47: the DIV half changes nothing that the TIMA half reads, and TIMA is its increments (`read_timaTicks`). -/
theorem timaCounts : Obligations.TimaCounts := by
  intro s delta w t tac period n tima tma
  have read {k : Nat} (other : k ≠ 0x04) := read_advanceDiv_other delta s other
  have wDiv : Memory.wf ioSize (advanceDiv delta s).io = true := divTicks_wf w _
  have enable : (advanceDiv delta s).timerOn = tac.getLsbD 2 := congrArg (bitOf · 2) (read (by decide))
  have period_eq : (advanceDiv delta s).timerPeriod = period := by
    rw [timerPeriod_eq, read (by decide)]
  refine ⟨fun off => ?_, fun on => ?_⟩
  · have stopped : t = advanceDiv delta s := if_neg (by rw [enable, off]; decide)
    rw [stopped]
    exact ⟨advanceDiv_timaSub delta s, read (by decide), read (by decide)⟩
  · have running : t = { Nat.repeat timaTick n (advanceDiv delta s) with timaSub := (s.timaSub + delta) % period } := by
      refine (if_pos (by rw [enable, on])).trans ?_
      simp only [period_eq, advanceDiv_timaSub]
      rfl
    have count := read_timaTicks wDiv n
    have flag := read_timaTicks_if wDiv n
    rw [read (k := 0x05) (by decide), read (k := 0x06) (by decide)] at count
    rw [read (k := 0x05) (by decide), read (k := 0x0F) (by decide)] at flag
    rw [running]
    refine ⟨rfl, fun low => ⟨count.trans (if_pos low), flag.trans (if_pos low)⟩, fun high => ?_⟩
    exact ⟨count.trans (if_neg (Nat.not_le.mpr high)), flag.trans (if_neg (Nat.not_le.mpr high))⟩

/-- Settles O55: the events are the cases of `hostKey`; a button is one of the eight fields of the latch. -/
theorem keyEventEffect : Obligations.KeyEventEffect := by
  intro s k rest
  refine ⟨rfl, rfl, rfl, ?press, ?latch⟩
  case press =>
    cases pressed : Buttons.get s.pressed k with
    | false => simp only [hostKey, applyKey, pressed, Bool.not_false, Bool.and_self, if_true]; rfl
    | true => simp only [hostKey, applyKey, pressed, Bool.not_true, Bool.and_false]; rfl
  case latch =>
    intro j v
    cases k <;> cases j <;> rfl

end

section
/-! PROOFS. The display through a frame (R416, R417): the phase in closed form after each of its events (O48). -/

namespace Sys2Proof.Machine

/-! What the end of a phase leaves, field by field. -/

namespace PhaseEnds
variable {s v : State} (h : PhaseEnds s v)
include h

theorem mode : v.mode = s.nextMode := congrArg State.mode h.state
theorem wlc : v.wlc = s.nextWlc := congrArg State.wlc h.state
theorem entries : v.entries = s.entries := (congrArg State.entries h.state).trans rfl
theorem modelFault : v.modelFault = s.modelFault := (congrArg State.modelFault h.state).trans rfl
theorem now : v.now = s.now := (congrArg State.now h.state).trans rfl
theorem displayOn : v.displayOn = s.displayOn := congrArg (bitOf · 7) (h.ioOther 0x40 (by decide) (by decide))

end PhaseEnds

/-- The phase that follows, by R416. -/
def DisplayPhase.next (p : DisplayPhase) : DisplayPhase :=
  match p.mode with
  | .oamScan => ⟨.pixelTransfer, p.line, p.deadline + 172⟩
  | .pixelTransfer => ⟨.hBlank, p.line, p.deadline + 204⟩
  | .hBlank => if p.line = 143 then ⟨.vBlank, 144, p.deadline + 456⟩ else ⟨.oamScan, p.line + 1, p.deadline + 80⟩
  | .vBlank => if p.line = 153 then ⟨.oamScan, 0, p.deadline + 80⟩ else ⟨.vBlank, p.line + 1, p.deadline + 456⟩

/-- VBlank begins at the deadline. -/
def DisplayPhase.entersVBlank (p : DisplayPhase) : Bool := p.mode == .hBlank && p.line == 143

/-- The display is on and in phase `p`, its one event the only one scheduled; IF bit 0 is `vblank`. -/
structure InPhase (s : State) (p : DisplayPhase) (vblank : Bool) : Prop where
  canonical : Memory.wf ioSize s.io = true
  on : s.displayOn = true
  mode : s.mode = p.mode
  line : s.ly.toNat = p.line
  entries : s.entries = [⟨p.deadline, .ppu⟩, panicSentinel]
  noFault : s.modelFault = none
  flag : bitOf s.ifReg 0 = vblank

theorem InPhase.phase {s : State} {p : DisplayPhase} {vblank : Bool} (h : InPhase s p vblank) : s.phase = some p := by
  unfold State.phase
  rw [h.on, h.entries, h.mode, h.line]

theorem ly_eq_iff {s : State} {n : Nat} (h : n < 256) : s.ly = BitVec.ofNat 8 n ↔ s.ly.toNat = n := by
  rw [← BitVec.toNat_inj, BitVec.toNat_ofNat, Nat.mod_eq_of_lt h]

theorem ly_succ_toNat {s : State} (h : s.ly.toNat ≤ 153) : (s.ly + 1#8).toNat = s.ly.toNat + 1 := by bv_omega

/-- The end of a phase as R416 gives it. -/
theorem PhaseEnds.phase {s v : State} (h : PhaseEnds s v) (bound : s.ly.toNat ≤ 153) (t : Nat) :
    (⟨v.mode, v.ly.toNat, t + phaseLength v.mode⟩ : DisplayPhase) = DisplayPhase.next ⟨s.mode, s.ly.toNat, t⟩ := by
  have at143 := ly_eq_iff (s := s) (n := 143) (by decide)
  have at153 := ly_eq_iff (s := s) (n := 153) (by decide)
  have succ := ly_succ_toNat bound
  rw [h.mode, h.line, State.nextMode, State.newLine, DisplayPhase.next]
  cases s.mode with
  | oamScan | pixelTransfer => rfl
  | hBlank => by_cases last : s.ly.toNat = 143 <;> simp [last, at143, phaseLength, succ, -BitVec.toNat_add]
  | vBlank => by_cases last : s.ly.toNat = 153 <;> simp [last, at153, phaseLength, succ, -BitVec.toNat_add]

theorem phaseLength_le (m : PpuMode) : phaseLength m ≤ 456 := by cases m <;> decide

theorem insertEvent_before_sentinel {t : Nat} (k : EventKind) (early : t < panicTime) :
    insertEvent ⟨t, k⟩ [panicSentinel] = [⟨t, k⟩, panicSentinel] := if_pos early

/-- The event of a display that has nothing else scheduled. -/
theorem ppuEvent_alone {s : State} {t : Nat} (w : Memory.wf ioSize s.io = true) (on : s.displayOn = true)
    (alone : s.entries = [panicSentinel]) (noFault : s.modelFault = none) (soon : t + 456 < panicTime) :
    ∃ v, PhaseEnds s v ∧ ppuEvent t s = { v with entries := [⟨t + phaseLength v.mode, .ppu⟩, panicSentinel] } := by
  obtain ⟨v, ends, pushed⟩ := ppuEvent_on w t on
  have early : t + phaseLength v.mode < panicTime := Nat.lt_of_le_of_lt (Nat.add_le_add_left (phaseLength_le _) t) soon
  have entries := ends.entries.trans alone
  refine ⟨v, ends, ?_⟩
  rw [pushed, ← ends.mode, schedPush_ok (ends.modelFault.trans noFault) early (by rw [entries]; decide), entries,
    insertEvent_before_sentinel _ early]

theorem InPhase.next {s : State} {p : DisplayPhase} {vblank : Bool} (h : InPhase s p vblank) (bound : p.line ≤ 153)
    (soon : p.deadline + 456 < panicTime) : InPhase (nextPhase s) p.next (vblank || p.entersVBlank) := by
  obtain ⟨canonical, on, mode, line, entries, noFault, flag⟩ := h
  obtain ⟨m, n, t⟩ := p
  dsimp only at mode line entries soon bound
  subst mode line
  have popped : nextPhase s = ppuEvent t { s with entries := [panicSentinel] } := by rw [nextPhase, entries]; rfl
  obtain ⟨v, ends, pushed⟩ := ppuEvent_alone (s := { s with entries := [panicSentinel] }) canonical on rfl noFault soon
  rw [popped, pushed]
  have phase := ends.phase bound t
  exact {
    canonical := ends.ioCanonical
    on := ends.displayOn.trans on
    mode := congrArg DisplayPhase.mode phase
    line := congrArg DisplayPhase.line phase
    entries := congrArg (fun p => [⟨DisplayPhase.deadline p, .ppu⟩, panicSentinel]) phase
    noFault := ends.modelFault.trans noFault
    flag := by
      have line : (s.ly == 143) = (s.ly.toNat == 143) := by
        rw [beq_eq_decide, beq_eq_decide, decide_eq_decide]
        exact ly_eq_iff (by decide)
      have raised : bitOf v.ifReg 0 = (bitOf s.ifReg 0 || s.entersVBlank) := by
        refine (congrArg (bitOf · 0) ends.flags).trans ?_
        rw [bitOf, BitVec.getLsbD_or, getLsbD_displayFlags]
        simp
        rfl
      exact raised.trans (by rw [flag, State.entersVBlank, line, DisplayPhase.entersVBlank]) }

/-- The same along the events of a frame, with the next phase and the flag written out. -/
theorem InPhase.event {s : State} {p q : DisplayPhase} {before after : Bool} {k : Nat}
    (h : InPhase (Nat.repeat nextPhase k s) p before) (next : p.next = q)
    (bound : p.line ≤ 153 := by dsimp only; omega) (soon : p.deadline + 456 < panicTime := by dsimp only; omega)
    (flag : (before || p.entersVBlank) = after := by rfl) : InPhase (Nat.repeat nextPhase (k + 1) s) q after :=
  next ▸ flag ▸ h.next bound soon

section
variable {s : State} {t : Nat} (start : InPhase s ⟨.oamScan, 0, t + 80⟩ false) (soon : t + 80000 < panicTime)
include start soon

/-- A line of the picture begins with event `3 * n`; its three phases end after 80, 252 and 456 cycles. -/
theorem InPhase.visibleLine {n : Nat} (visible : n < 144) :
    InPhase (Nat.repeat nextPhase (3 * n) s) ⟨.oamScan, n, t + 456 * n + 80⟩ false
      ∧ InPhase (Nat.repeat nextPhase (3 * n + 1) s) ⟨.pixelTransfer, n, t + 456 * n + 252⟩ false
      ∧ InPhase (Nat.repeat nextPhase (3 * n + 2) s) ⟨.hBlank, n, t + 456 * n + 456⟩ false := by
  have rest {n : Nat} (visible : n < 144)
      (scan : InPhase (Nat.repeat nextPhase (3 * n) s) ⟨.oamScan, n, t + 456 * n + 80⟩ false) :
      InPhase (Nat.repeat nextPhase (3 * n + 1) s) ⟨.pixelTransfer, n, t + 456 * n + 252⟩ false
        ∧ InPhase (Nat.repeat nextPhase (3 * n + 2) s) ⟨.hBlank, n, t + 456 * n + 456⟩ false := by
    have transfer : InPhase (Nat.repeat nextPhase (3 * n + 1) s) ⟨.pixelTransfer, n, t + 456 * n + 252⟩ false :=
      scan.event rfl
    exact ⟨transfer, transfer.event rfl⟩
  suffices scan : InPhase (Nat.repeat nextPhase (3 * n) s) ⟨.oamScan, n, t + 456 * n + 80⟩ false from
    ⟨scan, rest visible scan⟩
  induction n with
  | zero => exact start
  | succ n ih =>
    have before : n < 144 := by omega
    obtain ⟨-, blank⟩ := rest before (ih before)
    have visible : n ≠ 143 := by omega
    have next : DisplayPhase.next ⟨.hBlank, n, t + 456 * n + 456⟩ = ⟨.oamScan, n + 1, t + 456 * (n + 1) + 80⟩ :=
      (if_neg visible).trans (congrArg (DisplayPhase.mk .oamScan (n + 1)) (by ring))
    exact blank.event next (flag := by simp [DisplayPhase.entersVBlank, visible])

/-- VBlank begins with event 432, the flag with it. -/
theorem InPhase.blankLine {m : Nat} (bound : m < 10) :
    InPhase (Nat.repeat nextPhase (432 + m) s) ⟨.vBlank, 144 + m, t + 456 * m + 66120⟩ true := by
  induction m with
  | zero =>
    obtain ⟨-, -, blank⟩ := start.visibleLine soon (n := 143) (by decide)
    have next : DisplayPhase.next ⟨.hBlank, 143, t + 456 * 143 + 456⟩ = ⟨.vBlank, 144 + 0, t + 456 * 0 + 66120⟩ :=
      congrArg (DisplayPhase.mk .vBlank 144) (by ring)
    exact blank.event next
  | succ m ih =>
    have line := ih (by omega)
    have next : DisplayPhase.next ⟨.vBlank, 144 + m, t + 456 * m + 66120⟩ =
        ⟨.vBlank, 144 + (m + 1), t + 456 * (m + 1) + 66120⟩ :=
      (if_neg (by dsimp only; omega)).trans (congrArg (DisplayPhase.mk .vBlank (144 + (m + 1))) (by ring))
    exact line.event next

end

end Sys2Proof.Machine

open Sys2Proof Sys2Proof.Machine

/-- Settles O48: each event leads from one phase of R416 to the next (`InPhase.next`), through 144 lines of three phases and
ten of one. -/
theorem fullFrame : Obligations.FullFrame := by
  intro s t0 w on mode line noFault entries soon flag
  have start : InPhase s ⟨.oamScan, 0, t0 + 80⟩ false := ⟨w, on, mode, congrArg BitVec.toNat line, entries, noFault, flag⟩
  have last : InPhase (Nat.repeat nextPhase 441 s) ⟨.vBlank, 153, t0 + 456 * 9 + 66120⟩ true :=
    start.blankLine soon (m := 9) (by decide)
  have again : InPhase (Nat.repeat nextPhase 442 s) ⟨.oamScan, 0, t0 + 70224 + 80⟩ true :=
    last.event (congrArg (DisplayPhase.mk .oamScan 0) (by ring))
  refine ⟨fun n visible => ?_, fun m bound => ?_, again.phase, fun k bound => ?_⟩
  · obtain ⟨scan, transfer, blank⟩ := start.visibleLine soon visible
    exact ⟨scan.phase, transfer.phase, blank.phase.trans (congrArg (fun d => some (DisplayPhase.mk .hBlank n d)) (by ring))⟩
  · exact (start.blankLine soon bound).phase.trans
      (congrArg (fun d => some (DisplayPhase.mk .vBlank (144 + m) d)) (by ring))
  · by_cases blank : 432 ≤ k
    · rw [decide_eq_true blank]
      by_cases end_ : k = 442
      · rw [end_]; exact again.flag
      · have := (start.blankLine soon (m := k - 432) (by omega)).flag
        rwa [show 432 + (k - 432) = k by omega] at this
    · rw [decide_eq_false blank]
      obtain ⟨scan, transfer, blank⟩ := start.visibleLine soon (n := k / 3) (by omega)
      have event : k = 3 * (k / 3) ∨ k = 3 * (k / 3) + 1 ∨ k = 3 * (k / 3) + 2 := by omega
      rcases event with e | e | e <;> rw [e]
      · exact scan.flag
      · exact transfer.flag
      · exact blank.flag

end

section
/-! PROOFS. The instructions of the miscellaneous group, and what a machine step runs (R310 to R315, R331, R335 to R337,
R363 to R368): an instruction, a halted idle or an interrupt entry (O22, O23, O26, O27, O28). -/

namespace Sys2Proof.Machine

/-! The two instructions that depend on a parameter. -/

theorem exec_stop_nop2 {s : State} (pad : Byte) (mode : s.cfg.stopMode = .nop2) :
    exec (.stop pad) s = .next { s with pc := s.pc + 2, cycles := 4 } := by
  show exec_stop pad s = _
  simp only [exec_stop, mode]
  rfl

theorem exec_stop_fatal {s : State} (pad : Byte) (mode : s.cfg.stopMode = .fatal) :
    exec (.stop pad) s = .next { s with fatal := some ⟨0x10, s.pc⟩ } := by
  show exec_stop pad s = _
  simp only [exec_stop, mode]
  rfl

theorem exec_ei_eq (s : State) : exec .ei s = .next { s with
    ime := if s.cfg.eiDelay then s.ime else true
    eiPending := if s.cfg.eiDelay then true else s.eiPending
    pc := s.pc + 1
    cycles := 4 } := by
  show exec_ei s = _
  rw [exec_ei]
  cases s.cfg.eiDelay <;> rfl

/-! The pending sources. -/

section
variable {s : State} {i : Nat}

theorem bitOf_pending (source : i < 5) : bitOf s.pending i = (s.ie &&& Memory.read s.io 0x0F).getLsbD i := by
  have mask : ∀ k, k < 5 → (0x1F : Byte).getLsbD k = true := by decide
  show (s.ie &&& Memory.read s.io 0x0F &&& 0x1F).getLsbD i = _
  rw [BitVec.getLsbD_and, mask i source, Bool.and_true]

theorem pending_ne_zero (set : bitOf s.pending i = true) : s.pending ≠ 0 := by
  intro none
  rw [none] at set
  simp [bitOf] at set

theorem lowestSource_eq {p : Byte} (source : i < 5) (set : bitOf p i = true) (lower : ∀ j, j < i → bitOf p j = false) :
    lowestSource p = i := by
  unfold lowestSource
  interval_cases i <;> simp [lower, set]

theorem dispatches_eq_false (h : s.ime = false ∨ s.pending = 0) : s.dispatches = false := by
  rcases h with h | h <;> simp [State.dispatches, h]

theorem dispatches_eq_true (ime : s.ime = true) (pending : s.pending ≠ 0) : s.dispatches = true := by
  rw [State.dispatches, ime, Bool.true_and]
  exact bne_iff_ne.mpr pending

theorem wake_idle (none : s.pending = 0) : wake s = s := if_pos none

theorem wake_pending (pending : s.pending ≠ 0) : wake s = { s with halted := false } := if_neg pending

end

/-! The interrupt entry (R368). -/

/-- The entry stores two bytes over the cleared flag, and the rest is the CPU's. -/
theorem interruptEntry_withCpu (i : Nat) (s : State) (r : CpuRegs) :
    interruptEntry i (s.withCpu r) = (busWrite (busWrite (s.setIo offIF (s.ifReg &&& (0xFF ^^^ ((1 : Byte) <<< i))))
      (r.sp - 2) (lowByte r.pc)) (r.sp - 2 + 1) (highByte r.pc)).withCpu
        { r with sp := r.sp - 2, pc := interruptVector i, ime := false, cycles := 20 } := by
  have stacked : interruptEntry i (s.withCpu r) = { busWrite (busWrite
      ((s.setIo offIF (s.ifReg &&& (0xFF ^^^ ((1 : Byte) <<< i)))).withCpu { r with sp := r.sp - 2 })
        (r.sp - 2) (lowByte r.pc)) (r.sp - 2 + 1) (highByte r.pc) with
      pc := interruptVector i, ime := false, cycles := 20 } := rfl
  rw [stacked, busWrite_withCpu, busWrite_withCpu]
  rfl

theorem interruptEntry_fatal (i : Nat) (s : State) : (interruptEntry i s).fatal = s.fatal :=
  (congrArg State.fatal (interruptEntry_withCpu i s s.cpu)).trans rfl

theorem interruptVector_eq (i : Nat) : interruptVector i = BitVec.ofNat 16 (0x40 + 8 * i) :=
  (BitVec.ofNat_add 0x40 (8 * i)).symm

/-- Some of the CPU's fields replaced in a state that has the others of `s`. -/
theorem withCpu_of_cpu_eq {s t : State} (same : t.cpu = s.cpu) (sp pc : Word) (k : Nat) :
    t.withCpu { s.cpu with halted := false, sp := sp, pc := pc, ime := false, cycles := k } =
      { t with sp := sp, pc := pc, ime := false, halted := false, cycles := k } := by
  rw [← same]
  rfl

/-- The entry from a halted or a running state, in the words of R368. -/
theorem interruptEntry_woken (i : Nat) (s : State) : interruptEntry i { s with halted := false } = { busWrite
    (busWrite { s with io := Memory.write s.io 0x0F (Memory.read s.io 0x0F &&& ~~~((1 : Byte) <<< i)) }
      (s.sp - 2) (lowByte s.pc)) (s.sp - 1) (highByte s.pc) with
    sp := s.sp - 2, pc := BitVec.ofNat 16 (0x40 + 8 * i), ime := false, halted := false, cycles := 20 } := by
  have flag : (0xFF : Byte) ^^^ ((1 : Byte) <<< i) = ~~~((1 : Byte) <<< i) := BitVec.allOnes_xor
  have second : s.sp - 2 + 1 = s.sp - 1 := by bv_omega
  refine (interruptEntry_withCpu i s { s.cpu with halted := false }).trans ?_
  rw [flag, interruptVector_eq]
  show State.withCpu (busWrite (busWrite _ (s.sp - 2) (lowByte s.pc)) (s.sp - 2 + 1) (highByte s.pc)) _ = _
  rw [second]
  exact withCpu_of_cpu_eq ((busWrite_sameOffBus _ _ _).trans (busWrite_sameOffBus _ _ _)).cpu _ _ _

/-! What a step runs. -/

theorem finishEi_fatal (armed : Bool) (t : State) : (finishEi armed t).fatal = t.fatal := by
  unfold finishEi
  split <;> rfl

section
variable {s t : State}

theorem step_of_dispatch (noFatal : s.fatal = none) (noFault : s.modelFault = none) (ime : s.ime = true)
    (pending : s.pending ≠ 0) :
    step s = finishStep (interruptEntry (lowestSource s.pending) { s with halted := false }) := by
  have dispatched : cpuStep s = .next (interruptEntry (lowestSource s.pending) { s with halted := false }) := by
    rw [cpuStep, if_pos (dispatches_eq_true ime pending), wake_pending pending]
  rw [step_of_cpuStep noFatal noFault dispatched, interruptEntry_fatal]
  simp [noFatal]

theorem step_of_idle (noFatal : s.fatal = none) (noFault : s.modelFault = none) (halted : s.halted = true)
    (idle : s.pending = 0) : step s = finishStep { s with cycles := s.cfg.haltIdleCycles } := by
  have charged : cpuStep s = .next { s with cycles := s.cfg.haltIdleCycles } := by
    rw [cpuStep, dispatches_eq_false (.inr idle), wake_idle idle, if_neg (by decide), if_pos halted]
    rfl
  rw [step_of_cpuStep noFatal noFault charged]
  simp [noFatal]

theorem cpuStep_of_exec (noDispatch : s.dispatches = false) (running : (wake s).halted = false)
    (h : exec s.fetched (wake s) = .next t) : cpuStep s = .next (afterExec s t) := by
  rw [cpuStep, noDispatch, running, if_neg (by decide), if_neg (by decide), h]

theorem step_of_exec (noFatal : s.fatal = none) (noFault : s.modelFault = none) (noDispatch : s.dispatches = false)
    (running : (wake s).halted = false) (h : exec s.fetched (wake s) = .next t) :
    step s = if t.fatal.isSome then .next { s with fatal := t.fatal } else finishStep (finishEi s.eiPending t) := by
  rw [step_of_cpuStep noFatal noFault (cpuStep_of_exec noDispatch running h), afterExec]
  cases stop : t.fatal with
  | some r => rfl
  | none =>
    simp only [finishEi_fatal, stop, Option.isSome_none, Bool.false_eq_true, if_false]

/-- The rest of the step after the EI_DELAY clause of R335. -/
theorem finishStep_finishEi (armed : Bool) (t : State) : finishStep (finishEi armed t) =
    if t.cfg.eiDelay && armed && t.eiPending then finishStep { t with ime := true, eiPending := false } else finishStep t :=
  apply_ite finishStep _ _ _

/-- Every instruction answers a next state, with the parameters left alone. -/
theorem exec_next (i : Instr) (s : State) : ∃ t, exec i s = .next t ∧ t.cfg = s.cfg := by
  obtain ⟨ws, r, -, h⟩ := exec_shape i s
  exact ⟨_, h, (stores_sameOffBus s ws).cfg⟩

theorem wake_cfg (s : State) : (wake s).cfg = s.cfg := by rw [wake_cpuOnly s]; rfl

theorem fetched_eq (s : State) :
    s.fetched = decodeBytes (busRead s s.pc) (busRead s (s.pc + 1)) (busRead s (s.pc + 2)) := by
  have first : s.pc + BitVec.ofNat 16 0 = s.pc := BitVec.add_zero _
  rw [State.fetched, State.codeByte, first]
  rfl

theorem decode_eq_ok {b0 b1 b2 : Byte} {i : Instr} {rest : List Byte} (h : decode [b0, b1, b2] = .ok (i, rest)) :
    decodeBytes b0 b1 b2 = i := by
  unfold decode at h
  dsimp only at h
  split at h
  · cases h
  · exact congrArg Prod.fst (Except.ok.inj h)

end

end Sys2Proof.Machine

open Sys2Proof Sys2Proof.Machine

/-- Settles O22: the instructions' definitions, read off for each value of the two parameters. -/
theorem miscResults : Obligations.MiscResults := fun s =>
  ⟨⟨rfl, rfl, rfl, rfl, fun _ => rfl⟩, rfl, rfl, rfl, exec_ei_eq s, exec_stop_nop2, exec_stop_fatal⟩

/-- Settles O23: each illegal byte raises Fatal with itself. -/
theorem illegalByteResults : Obligations.IllegalByteResults := fun _ =>
  ⟨rfl, rfl, rfl, rfl, rfl, rfl, rfl, rfl, rfl, rfl, rfl⟩

/-- Settles O26: the instruction fetched is the one decoded, and it answers a next state. -/
theorem stepRunsDecoded : Obligations.StepRunsDecoded := by
  intro s i rest pending woken noFatal noFault noDispatch running decoded
  obtain rfl : s.fetched = i := (fetched_eq s).trans (decode_eq_ok decoded)
  obtain ⟨t, executed, cfg⟩ := exec_next s.fetched (wake s)
  have delay : t.cfg.eiDelay = s.cfg.eiDelay := congrArg Config.eiDelay (cfg.trans (wake_cfg s))
  rw [step_of_exec noFatal noFault (dispatches_eq_false noDispatch) running executed, finishStep_finishEi, delay,
    show exec s.fetched woken = .next t from executed]

/-- Settles O28: the wake test decides between the idle step and the instruction. -/
theorem haltSteps : Obligations.HaltSteps := by
  refine ⟨fun s noFatal noFault halted idle => step_of_idle noFatal noFault halted idle, ?_⟩
  intro s t noFatal noFault ime pending executed stop noDelay
  have woken : wake s = { s with halted := false } := wake_pending pending
  rw [← fetched_eq, ← woken] at executed
  obtain ⟨u, next, cfg⟩ := exec_next s.fetched (wake s)
  obtain rfl : u = t := Host.Outcome.next.inj (next.symm.trans executed)
  have delay : u.cfg.eiDelay = false := (congrArg Config.eiDelay (cfg.trans (wake_cfg s))).trans noDelay
  rw [step_of_exec noFatal noFault (dispatches_eq_false (.inl ime)) (by rw [woken]) executed, stop, finishStep_finishEi,
    delay]
  rfl

/-- Settles O27: the source is the lowest one pending, and the entry is `interruptEntry_woken`. -/
theorem interruptDispatch : Obligations.InterruptDispatch := by
  intro s i pending noFatal noFault ime source set lower
  have set' : bitOf s.pending i = true := (bitOf_pending source).trans set
  have lower' (j : Nat) (below : j < i) : bitOf s.pending j = false :=
    (bitOf_pending (Nat.lt_trans below source)).trans (lower j below)
  rw [step_of_dispatch noFatal noFault ime (pending_ne_zero set'), lowestSource_eq source set' lower', interruptEntry_woken]

end

section
/-! PROOFS. The scheduler: what a push does to the list (R340 to R345, R350; O45), and the rest of a machine step, which
pushes the Timers entry and handles what is due (R331, R346, R347; O31). -/

namespace Sys2Proof.Machine

/-! The push. -/

/-- An event between the earlier and the later entries leaves the list sorted and its sentinel last (R340, R345). -/
theorem ScheduleSorted.insert {early late : List Event} {ev : Event} (h : ScheduleSorted (early ++ late))
    (kind : ev.kind ≠ .panic) (soon : ev.time < panicTime) (before : ∀ e ∈ early, e.time ≤ ev.time)
    (after : ∀ e ∈ late, ev.time < e.time) : ScheduleSorted (early ++ ev :: late) where
  sorted := by
    obtain ⟨sortedEarly, sortedLate, across⟩ := List.pairwise_append.mp h.sorted
    refine List.pairwise_append.mpr
      ⟨sortedEarly, List.pairwise_cons.mpr ⟨fun e he => Nat.le_of_lt (after e he), sortedLate⟩, ?_⟩
    rintro x hx y (_ | ⟨_, hy⟩)
    · exact before x hx
    · exact across x hx y hy
  sentinel := by
    obtain ⟨front, parts, regular⟩ := h.sentinel
    obtain rfl | ⟨later, last, rfl⟩ := late.eq_nil_or_concat'
    · have listed : panicSentinel ∈ early := by
        rw [List.append_nil] at parts
        simp [parts]
      exact absurd (before _ listed) (Nat.not_le.mpr soon)
    · rw [← List.append_assoc] at parts
      obtain ⟨rfl, rfl⟩ : early ++ later = front ∧ last = panicSentinel := by simpa using List.append_inj' parts rfl
      refine ⟨early ++ ev :: later, by simp, fun e he => ?_⟩
      rcases List.mem_append.mp he with he | _ | ⟨_, he⟩
      · exact regular e (List.mem_append_left _ he)
      · exact ⟨kind, soon⟩
      · exact regular e (List.mem_append_right _ he)

section
variable {s : State} {t : Nat} {k : EventKind}

theorem schedPush_late (noFault : s.modelFault = none) (late : panicTime ≤ t) :
    schedPush s t k = { s with modelFault := some .schedulerPanic } := by
  simp [schedPush, noFault, late]

theorem schedPush_full (noFault : s.modelFault = none) (early : t < panicTime) (full : schedCapacity ≤ s.entries.length) :
    schedPush s t k = { s with modelFault := some .schedulerOverflow } := by
  simp [schedPush, noFault, Nat.not_le.mpr early, full]

theorem schedPush_latched (latched : s.modelFault ≠ none) : schedPush s t k = s :=
  if_pos (Option.isSome_iff_ne_none.mpr latched)

end

/-! The due events. -/

/-- The loop of R331 goes on: the first entry is due, and no model fault is latched. -/
def State.EventDue (s : State) : Prop := s.modelFault = none ∧ ∃ ev rest, s.entries = ev :: rest ∧ ev.time ≤ s.now

theorem nextPhase_cons {s : State} {ev : Event} {rest : List Event} (entries : s.entries = ev :: rest) :
    nextPhase s = handleEvent ev { s with entries := rest } := by
  rw [nextPhase, entries]

theorem nextPhase_cycles (s : State) : (nextPhase s).cycles = s.cycles := by
  cases entries : s.entries with
  | nil => rw [nextPhase, entries]
  | cons ev rest =>
    rw [nextPhase_cons entries]
    exact (congrArg State.cycles (handleEvent_only ev _)).trans rfl

theorem runDue_of_due {fuel : Nat} {s : State} (due : s.EventDue) : runDue (fuel + 1) s = runDue fuel (nextPhase s) := by
  obtain ⟨noFault, ev, rest, entries, soon⟩ := due
  rw [runDue_due entries soon noFault, nextPhase_cons entries]

theorem runDue_of_not_due {fuel : Nat} {s : State} (notDue : ¬s.EventDue) : runDue fuel s = s := by
  cases fuel with
  | zero => rfl
  | succ fuel =>
    unfold runDue
    split
    · rfl
    next ev rest entries =>
      refine if_neg fun due => notDue ?_
      simp only [Bool.and_eq_true, decide_eq_true_eq, Option.isNone_iff_eq_none] at due
      exact ⟨due.2, ev, rest, entries, due.1⟩

theorem repeat_succ_first {α : Type} (f : α → α) (n : Nat) (a : α) :
    Nat.repeat f (n + 1) a = Nat.repeat f n (f a) := by
  induction n with
  | zero => rfl
  | succ n ih => exact congrArg f ih

/-- A turn that is `nextPhase` at the step's cost is `nextPhase` in every turn, for the cost stays (R347). -/
theorem repeat_nextPhase {turn : State → State} {s : State}
    (agrees : ∀ u : State, u.cycles = s.cycles → turn u = nextPhase u) (n : Nat) :
    Nat.repeat turn n s = Nat.repeat nextPhase n s := by
  have cycles (k : Nat) : (Nat.repeat nextPhase k s).cycles = s.cycles := by
    induction k with
    | zero => rfl
    | succ k ih => exact (nextPhase_cycles _).trans ih
  induction n with
  | zero => rfl
  | succ n ih => exact (congrArg turn ih).trans (agrees _ (cycles n))

/-- The loop pops and handles entries as long as one is due, and no longer than its fuel lasts. -/
theorem runDue_eq_repeat (fuel : Nat) (s : State) :
    ∃ n, (∀ k, k < n → (Nat.repeat nextPhase k s).EventDue) ∧ runDue fuel s = Nat.repeat nextPhase n s := by
  induction fuel generalizing s with
  | zero => exact ⟨0, fun k none => absurd none (Nat.not_lt_zero k), rfl⟩
  | succ fuel ih =>
    by_cases due : s.EventDue
    · obtain ⟨n, turns, ends⟩ := ih (nextPhase s)
      refine ⟨n + 1, fun k below => ?_, by rw [runDue_of_due due, ends, repeat_succ_first]⟩
      cases k with
      | zero => exact due
      | succ k =>
        rw [repeat_succ_first]
        exact turns k (Nat.lt_of_succ_lt_succ below)
    · exact ⟨0, fun k none => absurd none (Nat.not_lt_zero k), runDue_of_not_due due⟩

/-- With `dueFuel` turns the loop ends because nothing more is due. -/
theorem runDue_ends_not_due (s : State) : ¬(runDue (dueFuel s) s).EventDue := by
  rintro ⟨noFault, ev, rest, entries, due⟩
  rcases runDue_ends (Nat.le_refl (dueFuel s)) with latched | later
  · exact latched noFault
  · exact absurd due (Nat.not_le.mpr (later ev rest entries))

/-- With every entry later than the new event, it is put first. -/
theorem insertEvent_first {ev : Event} {es : List Event} (later : ∀ e ∈ es, ev.time < e.time) :
    insertEvent ev es = ev :: es := by
  cases es with
  | nil => rfl
  | cons e es => exact if_pos (later e List.mem_cons_self)

/-- With nothing else due the loop handles the step's Timers entry alone (R331). -/
theorem runDue_pushTimers {s : State} (noFault : s.modelFault = none) (soon : s.now < panicTime)
    (room : s.entries.length < schedCapacity) (later : ∀ ev ∈ s.entries, s.now < ev.time) :
    runDue (dueFuel (schedPush s s.now .timers)) (schedPush s s.now .timers) = timerAdvance s.cycles s := by
  have pushed : schedPush s s.now .timers = { s with entries := ⟨s.now, .timers⟩ :: s.entries } := by
    rw [schedPush_ok noFault soon room, insertEvent_first later]
  have turns : dueFuel { s with entries := ⟨s.now, .timers⟩ :: s.entries } = dueFuel s + 1 := by
    simp [dueFuel, Nat.add_comm]
  have only := timerAdvance_only s.cycles s
  have entries : (timerAdvance s.cycles s).entries = s.entries := (congrArg State.entries only).trans rfl
  have now : (timerAdvance s.cycles s).now = s.now := (congrArg State.now only).trans rfl
  rw [pushed, turns]
  refine (runDue_due (s := { s with entries := _ :: s.entries }) rfl (Nat.le_refl s.now) noFault).trans ?_
  refine runDue_of_not_due (s := timerAdvance s.cycles s) ?_
  rintro ⟨-, ev, rest, first, due⟩
  rw [entries] at first
  rw [now] at due
  exact absurd due (Nat.not_le.mpr (later ev (first ▸ List.mem_cons_self)))

/-! The cost of a step (R332, R334, R338). -/

theorem finishEi_cycles (armed : Bool) (t : State) : (finishEi armed t).cycles = t.cycles := by
  unfold finishEi
  split <;> rfl

theorem cpuStep_cost {s u : State} (h : cpuStep s = .next u) (noFatal : u.fatal = none) :
    (4 ≤ u.cycles ∧ u.cycles ≤ 24) ∨ u.cycles = s.cfg.haltIdleCycles := by
  obtain ⟨-, rfl⟩ | ⟨-, -, rfl⟩ | ⟨-, -, t, executed, rfl⟩ := cpuStep_cases h
  · exact .inl ⟨by show 4 ≤ 20; decide, by show 20 ≤ 24; decide⟩
  · exact .inr rfl
  · cases stop : t.fatal with
    | some r =>
      rw [afterExec, stop] at noFatal
      cases noFatal
    | none =>
      have cost := exec_cost executed stop
      rw [afterExec, stop, finishEi_cycles]
      exact .inl cost

end Sys2Proof.Machine

open Sys2Proof Sys2Proof.Machine

/-- Settles O45: the insertion splits the list at the event's time. -/
theorem pushKeepsOrder : Obligations.PushKeepsOrder := by
  intro s t k
  refine ⟨fun sorted noFault kind soon room => ?_, schedPush_late, schedPush_full, schedPush_latched⟩
  obtain ⟨early, late, parts, inserted, before, after⟩ := insertEvent_split ⟨t, k⟩ sorted.sorted
  have pushed : schedPush s t k = { s with entries := early ++ ⟨t, k⟩ :: late } := by
    rw [schedPush_ok noFault soon room, inserted]
  refine ⟨?_, early, late, parts, pushed, before, after⟩
  rw [pushed]
  rw [parts] at sorted
  exact sorted.insert kind soon before after

/-- Settles O31: the loop is the turns it takes while something is due, and `dueFuel` lets it end. -/
theorem stepAdvancesTime : Obligations.StepAdvancesTime := by
  refine ⟨fun s t stepped => ?_, fun t => ?_⟩
  · obtain ⟨-, -, u, ran, ⟨stop, rfl⟩ | ⟨noFatal, finished⟩⟩ := step_cases stepped
    · exact ⟨fun noFatal => by simp [noFatal] at stop, fun _ => (cpuStep_now_cfg ran).1⟩
    · obtain ⟨cpu, now, -⟩ := finishStep_fields finished
      have cycles : t.cycles = u.cycles := congrArg CpuRegs.cycles cpu
      have fatal : t.fatal = none := (congrArg CpuRegs.fatal cpu).trans noFatal
      rw [cycles, now, (cpuStep_now_cfg ran).1]
      exact ⟨fun _ => ⟨rfl, cpuStep_cost ran noFatal⟩, fun stop => absurd fatal stop⟩
  · intro later due turn answer pushed
    have agrees (u : State) (cycles : u.cycles = t.cycles) : turn u = nextPhase u := by
      cases entries : u.entries with
      | nil => simp only [turn, nextPhase, entries]
      | cons ev rest =>
        cases kind : ev.kind <;> simp only [turn, nextPhase, entries, handleEvent, kind, cycles]
    have answers : finishStep t = answer (passTime t) := by
      simp only [finishStep, answer]
      cases (passTime t).modelFault with
      | none => rfl
      | some m => cases m <;> rfl
    refine ⟨?_, fun noFault soon room ahead => ?_⟩
    · obtain ⟨n, turns, ends⟩ := runDue_eq_repeat (dueFuel pushed) pushed
      have same (k : Nat) : Nat.repeat turn k pushed = Nat.repeat nextPhase k pushed :=
        repeat_nextPhase (fun u cycles => agrees u (cycles.trans (schedPush_cycles later _ _))) k
      refine ⟨n, fun k below => ?_, ?_, ?_⟩
      · rw [same]
        exact turns k below
      · rw [same, ← ends]
        exact runDue_ends_not_due pushed
      · rwa [same, ← ends]
    · have only := timerAdvance_only t.cycles later
      have noFault' : (timerAdvance t.cycles later).modelFault = none :=
        ((congrArg State.modelFault only).trans rfl).trans noFault
      have passed : passTime t = timerAdvance t.cycles later := runDue_pushTimers (s := later) noFault soon room ahead
      rw [answers, passed]
      simp only [answer, noFault']

end

section
/-! PROOFS. The renderer (R404, R419 to R432): its indices, colours and row in the numbers of the rules (O50). -/

namespace Sys2Proof.Machine

/-! Which event touches the buffer. -/

/-- What the renderer writes: the pixel buffer, the indices and the window-line counter. -/
def State.frame (s : State) : List (List (BitVec 32)) × List (BitVec 2) × Nat := (s.fb, s.bgidx, s.wlc)

theorem schedPush_frame (s : State) (t : Nat) (k : EventKind) : (schedPush s t k).frame = s.frame := by
  simp [State.frame]

theorem setLy_frame (s : State) (v : Byte) : (setLy s v).frame = s.frame := by
  rw [setLy_io_only]
  rfl

theorem statIrq_frame (s : State) (k : Nat) : (statIrq s k).frame = s.frame := by
  rw [statIrq_io_only]
  rfl

theorem enterOamScan_frame (t : Nat) (s : State) : (enterOamScan t s).frame = s.frame :=
  (schedPush_frame _ _ _).trans (statIrq_frame _ 5)

theorem enterVBlank_frame (t : Nat) (s : State) : (enterVBlank t s).frame = s.frame :=
  (schedPush_frame _ _ _).trans (statIrq_frame _ 4)

theorem endPixelTransfer_frame (t : Nat) (s : State) : (endPixelTransfer t s).frame = s.frame :=
  (schedPush_frame _ _ _).trans (statIrq_frame _ 3)

theorem endHBlank_frame (t : Nat) (s : State) : (endHBlank t s).frame = s.frame := by
  unfold endHBlank
  dsimp only
  split
  · exact (enterVBlank_frame t _).trans (setLy_frame s _)
  · exact (enterOamScan_frame t _).trans (setLy_frame s _)

theorem endVBlankLine_frame (t : Nat) (s : State) :
    (endVBlankLine t s).frame = (s.fb, s.bgidx, if s.ly = 153 then 0 else s.wlc) := by
  unfold endVBlankLine
  split
  · exact (enterOamScan_frame t _).trans (by rw [setLy_io_only]; rfl)
  · exact (schedPush_frame _ _ _).trans (setLy_frame s _)

/-- The event that ends OAM-scan renders the line (R404). -/
theorem ppuEvent_oamScan {s : State} (t : Nat) (on : s.displayOn = true) (mode : s.mode = .oamScan) :
    ppuEvent t s = schedPush (renderScanline { s with mode := .pixelTransfer }) (t + 172) .ppu := by
  rw [ppuEvent, if_pos on, mode]
  rfl

/-- Any other leaves the frame alone, but for the counter's return to 0 at the end of line 153 (R405 to R407). -/
theorem ppuEvent_frame {s : State} (t : Nat) (h : s.displayOn = false ∨ s.mode ≠ .oamScan) : (ppuEvent t s).frame =
    (s.fb, s.bgidx, if s.displayOn = true ∧ s.mode = .vBlank ∧ s.ly = 153 then 0 else s.wlc) := by
  cases on : s.displayOn with
  | false => simp [ppuEvent_off t on, State.frame]
  | true =>
    rw [ppuEvent, if_pos on]
    obtain ⟨m, mode⟩ : ∃ m, s.mode = m := ⟨_, rfl⟩
    cases m <;> simp only [mode]
    case oamScan => simp [on, mode] at h
    case pixelTransfer => rw [if_neg (by simp)]; exact endPixelTransfer_frame t s
    case hBlank => rw [if_neg (by simp)]; exact endHBlank_frame t s
    case vBlank => simpa using endVBlankLine_frame t s

/-! Bits and palettes as numbers (R423 to R425). -/

theorem bitOf_toNat (v : Byte) (k : Nat) : (BitVec.ofBool (bitOf v k)).toNat = v.toNat / 2 ^ k % 2 := by
  rw [bitOf, BitVec.getLsbD, Nat.testBit_eq_decide_div_mod_eq]
  rcases Nat.mod_two_eq_zero_or_one (v.toNat / 2 ^ k) with h | h <;> simp [h]

/-- The colour index is two bits, the second plane's the higher one (R424). -/
theorem tilePix_toNat (s : State) (r c : Nat) : (s.tilePix r c).toNat =
    2 * ((s.vr (r + 1)).toNat / 2 ^ (7 - c) % 2) + (s.vr r).toNat / 2 ^ (7 - c) % 2 := by
  have planes (high low : Bool) : (BitVec.ofBool high ++ BitVec.ofBool low).toNat =
      2 * (BitVec.ofBool high).toNat + (BitVec.ofBool low).toNat := by revert high low; decide
  rw [State.tilePix, planes, bitOf_toNat, bitOf_toNat]

/-- The signed tile numbers of R423. -/
theorem tileAddr_eq (s : State) (t : Byte) : s.tileAddr t = if bitOf s.lcdc 4 then 0x8000 + 16 * t.toNat
    else if t.toNat < 128 then 0x9000 + 16 * t.toNat else 0x9000 - 16 * (256 - t.toNat) := by
  unfold State.tileAddr
  rw [BitVec.toInt_eq_toNat_cond]
  have := t.isLt
  split
  · rfl
  · split <;> split <;> omega

/-- The four shades by number (R425). -/
def shadeNumber (sh : Shades) : Nat → BitVec 32
  | 0 => sh.shade0
  | 1 => sh.shade1
  | 2 => sh.shade2
  | _ => sh.shade3

theorem pal_toNat (p : Byte) (i : BitVec 2) : (pal p i).toNat = p.toNat / 4 ^ i.toNat % 4 := by
  have four : (4 : Nat) ^ i.toNat = 2 ^ (2 * i.toNat) := by rw [Nat.pow_mul]
  rw [pal, BitVec.extractLsb'_toNat, Nat.shiftRight_eq_div_pow, four]

/-- A palette's shade of an index (R425). -/
theorem shadeOf_pal (sh : Shades) (p : Byte) (i : BitVec 2) :
    shadeOf sh (pal p i) = shadeNumber sh (p.toNat / 4 ^ i.toNat % 4) := by
  rw [← pal_toNat]
  obtain ⟨⟨n, below⟩⟩ := pal p i
  interval_cases n <;> rfl

/-! The scanline. -/

theorem lineColours_getElem? (s : State) {px : Nat} (visible : px < 160) :
    s.lineColours[px]? = some (s.pixelColour s.drawList px) := by
  simp [State.lineColours, visible]

/-- With the sprites off the line is the background's (R426). -/
theorem pixelColour_spritesOff {s : State} (off : bitOf s.lcdc 1 = false) (px : Nat) :
    s.pixelColour s.drawList px = s.bgColour px := by
  simp [State.pixelColour, State.drawList, off]

end Sys2Proof.Machine

open Sys2Proof Sys2Proof.Machine

/-- Settles O50: index, colour and row, each in the numbers of its rule. -/
theorem renderFrame : Obligations.RenderFrame := by
  intro s reg lcdc vr tileAddr fetch window index background pixel
  have takesWindow : s.takesWindow = window := by
    funext px
    simp only [State.takesWindow, State.inWindow, window, Bool.and_assoc]
    rfl
  have indexed (px : Nat) : (s.bgIndex px).toNat = index px := by
    have fetched (map : Bool) (mx my : Nat) :
        (s.mapPix (if map then 0x9C00 else 0x9800) mx my).toNat = fetch map mx my := by
      rw [State.mapPix, tilePix_toNat, tileAddr_eq, State.mapTile, apply_ite BitVec.toNat]
      rfl
    have off : lcdc 0 = bitOf s.lcdc 0 := rfl
    simp only [State.bgIndex, takesWindow, index, off]
    cases bitOf s.lcdc 0 with
    | false => rfl
    | true =>
      simp only [Bool.not_true, Bool.true_eq_false, Bool.false_eq_true, if_false]
      split
      · exact fetched (lcdc 6) _ _
      · exact fetched (lcdc 3) _ _
  have coloured (px : Nat) : s.bgColour px = background px := by
    rw [State.bgColour, shadeOf_pal, indexed]
    rfl
  have row (visible : s.ly.toNat < s.fb.length) (px : Nat) (h : px < 160) :
      pixel px = some (s.pixelColour s.drawList px) := by
    have stored : (renderScanline s).fb[s.ly.toNat]? = some s.lineColours := List.getElem?_set_self visible
    simp only [pixel, stored, Option.bind_some, lineColours_getElem? s h]
  refine ⟨⟨(renderScanline s).fb, (renderScanline s).bgidx, ?_⟩, fun n other => List.getElem?_set_ne other.symm, ?_,
    fun px => ⟨indexed px, coloured px⟩, fun visible px h => ⟨row visible px h, fun off => ?_⟩, fun t => ppuEvent_oamScan t,
    fun t h => ?_⟩
  · rw [← takesWindow]
    show _ = ({ s with fb := _, bgidx := _, wlc := s.wlc + if s.usedWindow then 1 else 0 } : State)
    unfold renderScanline
    cases s.usedWindow <;> rfl
  · simp only [renderScanline, List.map_map]
    exact List.map_congr_left fun px _ => indexed px
  · rw [row visible px h, pixelColour_spritesOff off, coloured]
  · exact ⟨congrArg (·.1) (ppuEvent_frame t h), congrArg (·.2.2) (ppuEvent_frame t h)⟩

end

section
/-! PROOFS. The display and the scheduler through a machine step (R340, R348, R401, R402, R417, R434): what each part of the
step keeps of `DisplayConsistent` and of the pixel buffer's shape (O59). -/

namespace Sys2Proof.Machine

/-! The line and the window-line counter fit the mode. -/

/-- LY and the window-line counter are in the range of the mode (R402, R432). -/
def LineFits (m : PpuMode) (line wlc : Nat) : Prop :=
  (if m = .vBlank then 144 ≤ line ∧ line ≤ 153 else line ≤ 143)
    ∧ (if m = .oamScan then wlc ≤ line else wlc ≤ line + 1)

theorem renderScanline_wlc_le (s : State) : (renderScanline s).wlc ≤ s.wlc + 1 := by
  show (if s.usedWindow then s.wlc + 1 else s.wlc) ≤ s.wlc + 1
  split <;> omega

/-- The end of a phase keeps it so: the counter grows once a line, in the phase that LY stays in. -/
theorem PhaseEnds.lineFits {s v : State} (h : PhaseEnds s v) (fits : LineFits s.mode s.ly.toNat s.wlc) :
    LineFits v.mode v.ly.toNat v.wlc := by
  have at143 := ly_eq_iff (s := s) (n := 143) (by decide)
  have at153 := ly_eq_iff (s := s) (n := 153) (by decide)
  rw [h.mode, h.line, h.wlc, State.nextMode, State.newLine, State.nextWlc]
  cases mode : s.mode with
  | oamScan =>
    obtain ⟨line, wlc⟩ : s.ly.toNat ≤ 143 ∧ s.wlc ≤ s.ly.toNat := by rwa [mode] at fits
    exact ⟨line, Nat.le_trans (renderScanline_wlc_le s) (Nat.succ_le_succ wlc)⟩
  | pixelTransfer => rwa [mode] at fits
  | hBlank =>
    obtain ⟨line, wlc⟩ : s.ly.toNat ≤ 143 ∧ s.wlc ≤ s.ly.toNat + 1 := by rwa [mode] at fits
    have next : (s.ly + 1#8).toNat = s.ly.toNat + 1 := ly_succ_toNat (by omega)
    by_cases last : s.ly.toNat = 143
    · simp [LineFits, at143, last, next]
      omega
    · simp [LineFits, at143, last, next]
      omega
  | vBlank =>
    obtain ⟨⟨low, high⟩, wlc⟩ : (144 ≤ s.ly.toNat ∧ s.ly.toNat ≤ 153) ∧ s.wlc ≤ s.ly.toNat + 1 := by
      rwa [mode] at fits
    have next : (s.ly + 1#8).toNat = s.ly.toNat + 1 := ly_succ_toNat high
    by_cases last : s.ly.toNat = 153
    · simp [LineFits, at153, last]
    · simp [LineFits, at153, last, next]
      omega

/-! The event list inside a step. -/

/-- The event list of a step at `now`: the display's event at its deadline, if it has one, and perhaps the step's Timers
entry. -/
inductive Agenda (now : Nat) : Option Nat → List Event → Prop
  | off : Agenda now none [panicSentinel]
  | offTimers : Agenda now none [⟨now, .timers⟩, panicSentinel]
  | on (deadline : Nat) : Agenda now (some deadline) [⟨deadline, .ppu⟩, panicSentinel]
  | timersFirst (deadline : Nat) : Agenda now (some deadline) [⟨now, .timers⟩, ⟨deadline, .ppu⟩, panicSentinel]
  | displayFirst {deadline : Nat} (due : deadline ≤ now) :
      Agenda now (some deadline) [⟨deadline, .ppu⟩, ⟨now, .timers⟩, panicSentinel]

namespace Agenda
variable {now : Nat} {d : Option Nat} {es : List Event}

/-- A due entry is the step's Timers entry or the display's event. -/
theorem pop {ev : Event} (h : Agenda now d (ev :: es)) (soon : now < panicTime) (due : ev.time ≤ now) :
    (ev = ⟨now, .timers⟩ ∧ Agenda now d es)
      ∨ ∃ deadline, d = some deadline ∧ ev = ⟨deadline, .ppu⟩ ∧ Agenda now none es := by
  cases h with
  | off => exact absurd due (Nat.not_le.mpr soon)
  | offTimers => exact .inl ⟨rfl, .off⟩
  | on deadline => exact .inr ⟨deadline, rfl, rfl, .off⟩
  | timersFirst deadline => exact .inl ⟨rfl, .on deadline⟩
  | displayFirst _ => exact .inr ⟨_, rfl, rfl, .offTimers⟩

theorem pushDisplay (h : Agenda now none es) {deadline : Nat} (early : deadline < panicTime) :
    Agenda now (some deadline) (insertEvent ⟨deadline, .ppu⟩ es) := by
  cases h with
  | off => rw [insertEvent_before_sentinel _ early]; exact .on deadline
  | offTimers =>
    rw [insertEvent, insertEvent_before_sentinel _ early]
    split
    next due => exact .displayFirst (Nat.le_of_lt due)
    next => exact .timersFirst deadline

/-- The Timers entry of the step, pushed into the list that the CPU left. -/
theorem pushTimers_off (soon : now < panicTime) : Agenda now none (insertEvent ⟨now, .timers⟩ [panicSentinel]) := by
  rw [insertEvent_before_sentinel _ soon]
  exact .offTimers

theorem pushTimers_on {deadline : Nat} (soon : now < panicTime) :
    Agenda now (some deadline) (insertEvent ⟨now, .timers⟩ [⟨deadline, .ppu⟩, panicSentinel]) := by
  rw [insertEvent, insertEvent_before_sentinel _ soon]
  split
  next => exact .timersFirst deadline
  next due => exact .displayFirst (Nat.not_lt.mp due)

/-- With nothing due the Timers entry is gone. -/
theorem notDue (h : Agenda now d es) (rest : ∀ ev tail, es = ev :: tail → now < ev.time) :
    (d = none ∧ es = [panicSentinel])
      ∨ ∃ deadline, d = some deadline ∧ es = [⟨deadline, .ppu⟩, panicSentinel] ∧ now < deadline := by
  cases h with
  | off => exact .inl ⟨rfl, rfl⟩
  | offTimers => exact absurd (rest _ _ rfl) (Nat.lt_irrefl now)
  | on deadline => exact .inr ⟨deadline, rfl, rfl, rest _ _ rfl⟩
  | timersFirst _ => exact absurd (rest _ _ rfl) (Nat.lt_irrefl now)
  | displayFirst due => exact absurd (rest _ _ rfl) (Nat.not_lt.mpr due)

end Agenda

/-! What leaves the display alone. -/

/-- The display and the scheduler are in `t` as they are in `s`. -/
structure SameDisplay (s t : State) : Prop where
  now : t.now = s.now
  modelFault : t.modelFault = s.modelFault
  entries : t.entries = s.entries
  mode : t.mode = s.mode
  wlc : t.wlc = s.wlc
  on : t.displayOn = s.displayOn
  line : t.ly = s.ly

theorem SameDisplay.consistent {s t : State} (h : SameDisplay s t) (c : DisplayConsistent s) : DisplayConsistent t := by
  obtain ⟨now, modelFault, entries, mode, wlc, on, line⟩ := h
  refine ⟨?_, ?_, fun isOff => ?_, fun isOn => ?_⟩
  · rw [now]; exact c.beforePanic
  · rw [modelFault]; exact c.noModelFault
  · rw [mode, line, wlc, entries]; exact c.off (on ▸ isOff)
  · rw [mode, line, wlc, entries, now]; exact c.on (on ▸ isOn)

theorem setIo_sameDisplay {s : State} {off : Nat} {v : Byte} (lcdc : off ≠ 0x40) (ly : off ≠ 0x44) :
    SameDisplay s (s.setIo off v) :=
  ⟨rfl, rfl, rfl, rfl, rfl, displayOn_setIo lcdc, read_setIo_other ly.symm⟩

theorem ioWrite_sameDisplay {s : State} {off : Nat} {v : Byte} (lcdc : off ≠ 0x40) : SameDisplay s (ioWrite s off v) := by
  unfold ioWrite
  split; · exact setIo_sameDisplay (by decide) (by decide)
  split
  · have div : SameDisplay s (s.setIo offDIV 0) := setIo_sameDisplay (by decide) (by decide)
    exact ⟨rfl, rfl, rfl, rfl, rfl, div.on, div.line⟩
  split
  next isLcdc => exact absurd isLcdc lcdc
  split; · exact setIo_sameDisplay (by decide) (by decide)
  split; · exact ⟨rfl, rfl, rfl, rfl, rfl, rfl, rfl⟩
  split
  · have copied := oamCopy_eq (s.setIo offDMA v) v
    generalize oamCopy (s.setIo offDMA v) v = t at copied
    rw [copied]
    have dma : SameDisplay s (s.setIo offDMA v) := setIo_sameDisplay (by decide) (by decide)
    exact ⟨rfl, rfl, rfl, rfl, rfl, dma.on, dma.line⟩
  split
  · have boot : SameDisplay s (s.setIo offBOOT v) := setIo_sameDisplay (by decide) (by decide)
    exact ⟨rfl, rfl, rfl, rfl, rfl, boot.on, boot.line⟩
  next ly _ _ => exact setIo_sameDisplay lcdc ly

/-- No store but that of LCDC touches the display (R67, R77). -/
theorem busWrite_sameDisplay {s : State} {a : Word} {v : Byte} (lcdc : a ≠ 0xFF40) : SameDisplay s (busWrite s a v) := by
  unfold busWrite
  dsimp only
  split; · exact ⟨rfl, rfl, rfl, rfl, rfl, rfl, rfl⟩
  split; · split <;> exact ⟨rfl, rfl, rfl, rfl, rfl, rfl, rfl⟩
  split; · exact ⟨rfl, rfl, rfl, rfl, rfl, rfl, rfl⟩
  split; · exact ⟨rfl, rfl, rfl, rfl, rfl, rfl, rfl⟩
  split; · exact ⟨rfl, rfl, rfl, rfl, rfl, rfl, rfl⟩
  split; · split <;> exact ⟨rfl, rfl, rfl, rfl, rfl, rfl, rfl⟩
  split; · exact ⟨rfl, rfl, rfl, rfl, rfl, rfl, rfl⟩
  split
  · exact ioWrite_sameDisplay fun offset => lcdc (BitVec.eq_of_toNat_eq (by show a.toNat = 0xFF40; omega))
  split <;> exact ⟨rfl, rfl, rfl, rfl, rfl, rfl, rfl⟩

theorem timerAdvance_sameDisplay (delta : Nat) (s : State) : SameDisplay s (timerAdvance delta s) where
  now := (congrArg State.now (timerAdvance_only delta s)).trans rfl
  modelFault := (congrArg State.modelFault (timerAdvance_only delta s)).trans rfl
  entries := (congrArg State.entries (timerAdvance_only delta s)).trans rfl
  mode := (congrArg State.mode (timerAdvance_only delta s)).trans rfl
  wlc := (congrArg State.wlc (timerAdvance_only delta s)).trans rfl
  on := congrArg (bitOf · 7) (read_timerAdvance_other delta s (by decide) (by decide) (by decide))
  line := read_timerAdvance_other delta s (by decide) (by decide) (by decide)

theorem read_hostKey_other (s : State) {k : Nat} (flag : k ≠ 0x0F) :
    Memory.read (hostKey s).io k = Memory.read s.io k := by
  unfold hostKey
  split
  · rfl
  · rfl
  · unfold applyKey
    dsimp only
    split
    · exact read_raiseIf_other flag
    · rfl

theorem hostKey_sameDisplay (s : State) : SameDisplay s (hostKey s) where
  now := (congrArg State.now (hostKey_only s)).trans rfl
  modelFault := (congrArg State.modelFault (hostKey_only s)).trans rfl
  entries := (congrArg State.entries (hostKey_only s)).trans rfl
  mode := (congrArg State.mode (hostKey_only s)).trans rfl
  wlc := (congrArg State.wlc (hostKey_only s)).trans rfl
  on := congrArg (bitOf · 7) (read_hostKey_other s (by decide))
  line := read_hostKey_other s (by decide)

/-! The CPU's part of a step. -/

/-- A push that leaves no fault latched was legal, and inserted its event (R341, R343, R344). -/
theorem schedPush_noFault {s : State} {t : Nat} {k : EventKind} (noFault : (schedPush s t k).modelFault = none) :
    s.modelFault = none ∧ t < panicTime ∧ schedPush s t k = { s with entries := insertEvent ⟨t, k⟩ s.entries } := by
  unfold schedPush at noFault ⊢
  split at noFault
  next latched => rw [noFault] at latched; cases latched
  next fresh =>
    split at noFault
    next => cases noFault
    next early =>
      split at noFault
      next => cases noFault
      next room => exact ⟨noFault, Nat.not_le.mp early, by rw [if_neg fresh, if_neg early, if_neg room]⟩

/-- A fault latched before the write of LCDC is latched after it. -/
theorem writeLcdc_noFault {s : State} {v : Byte} (noFault : (writeLcdc s v).modelFault = none) : s.modelFault = none := by
  cases was : s.displayOn <;> cases is : bitOf v 7
  case true.false => rwa [writeLcdc_off was is] at noFault
  case false.true =>
    rw [writeLcdc_on was is] at noFault
    exact (schedPush_noFault noFault).1
  all_goals rwa [writeLcdc_same (was.trans is.symm)] at noFault

/-- Unless it latches a fault, the write of LCDC leaves the display and the scheduler consistent (R413, R414). -/
theorem writeLcdc_consistent {s : State} {v : Byte} (w : Memory.wf ioSize s.io = true) (c : DisplayConsistent s)
    (noFault : (writeLcdc s v).modelFault = none) : DisplayConsistent (writeLcdc s v) := by
  have w1 : Memory.wf ioSize (Memory.write s.io 0x40 v) = true := Memory.write_wf w (by decide)
  have switch : bitOf (Memory.read (Memory.write (Memory.write s.io 0x40 v) 0x44 0) 0x40) 7 = bitOf v 7 := by
    rw [Memory.read_write_other (by decide), Memory.read_write_same w]
  have line : Memory.read (Memory.write (Memory.write s.io 0x40 v) 0x44 0) 0x44 = 0 := Memory.read_write_same w1
  cases was : s.displayOn <;> cases is : bitOf v 7
  case true.false =>
    obtain ⟨⟨t, entries, -⟩, -⟩ := c.on was
    rw [writeLcdc_off was is, entries]
    exact ⟨c.beforePanic, c.noModelFault, fun _ => ⟨rfl, line, rfl, rfl⟩,
      fun on => absurd (on.symm.trans (switch.trans is)) (by decide)⟩
  case false.true =>
    obtain ⟨-, -, -, entries⟩ := c.off was
    rw [writeLcdc_on was is] at noFault ⊢
    obtain ⟨-, early, pushed⟩ := schedPush_noFault noFault
    rw [pushed]
    refine ⟨c.beforePanic, c.noModelFault, fun off => absurd (off.symm.trans (switch.trans is)) (by decide), fun _ =>
      ⟨⟨s.now + 80, ?_, Nat.lt_add_of_pos_right (by decide), Nat.add_le_add_left (by decide) _, early⟩, ?_, Nat.zero_le _⟩⟩
    · show insertEvent _ s.entries = _
      rw [entries, insertEvent_before_sentinel _ early]
    · show (Memory.read (Memory.write (Memory.write s.io 0x40 v) 0x44 0) 0x44).toNat ≤ 143
      rw [line]
      decide
  all_goals
    have same : SameDisplay s (s.setIo 0x40 v) := ⟨rfl, rfl, rfl, rfl, rfl,
      (congrArg (bitOf · 7) (read_setIo_same w)).trans (is.trans was.symm), read_setIo_other (by decide)⟩
    rw [writeLcdc_same (was.trans is.symm)]
    exact same.consistent c

/-- So does any store. -/
theorem busWrite_consistent {s : State} {a : Word} {v : Byte} (w : Memory.wf ioSize s.io = true)
    (c : s.modelFault = none → DisplayConsistent s) (noFault : (busWrite s a v).modelFault = none) :
    DisplayConsistent (busWrite s a v) := by
  by_cases lcdc : a = 0xFF40
  · subst lcdc
    rw [busWrite_lcdc] at noFault ⊢
    exact writeLcdc_consistent w (c (writeLcdc_noFault noFault)) noFault
  · have same := busWrite_sameDisplay (s := s) (v := v) lcdc
    exact same.consistent (c (same.modelFault.symm.trans noFault))

theorem stores_consistent {s : State} (ws : List (Word × Byte)) (canonical : MemoriesCanonical s)
    (c : s.modelFault = none → DisplayConsistent s) (noFault : (s.stores ws).modelFault = none) :
    DisplayConsistent (s.stores ws) := by
  induction ws generalizing s with
  | nil => exact c noFault
  | cons w ws ih => exact ih (busWrite_canonical canonical) (busWrite_consistent canonical.io c) noFault

/-- The same state with another CPU. -/
theorem withCpu_sameDisplay (s : State) (r : CpuRegs) : SameDisplay s (s.withCpu r) :=
  ⟨rfl, rfl, rfl, rfl, rfl, rfl, rfl⟩

/-- `CpuStep` leaves every array canonical, and display and scheduler consistent unless it latches a fault. -/
theorem cpuStep_consistent {s u : State} (h : cpuStep s = .next u) (canonical : MemoriesCanonical s)
    (c : DisplayConsistent s) : Memory.wf ioSize u.io = true ∧ (u.modelFault = none → DisplayConsistent u) := by
  obtain ⟨v, ws, r, -, rfl | rfl⟩ := cpuStep_shape h
  · exact ⟨(stores_canonical canonical ws).io, fun noFault =>
      (withCpu_sameDisplay _ r).consistent (stores_consistent ws canonical (fun _ => c) noFault)⟩
  · have cleared : SameDisplay s (s.setIo offIF v) := setIo_sameDisplay (by decide) (by decide)
    have canonical := setIo_canonical (v := v) canonical (show offIF < ioSize by decide)
    exact ⟨(stores_canonical canonical ws).io, fun noFault =>
      (withCpu_sameDisplay _ r).consistent (stores_consistent ws canonical (fun _ => cleared.consistent c) noFault)⟩

/-! The due events of a step. -/

/-- Display and scheduler agree in the middle of a step: the time is advanced, events are perhaps still due (R331, R346). -/
structure MidStep (s : State) : Prop where
  beforePanic : s.now < panicTime
  off : s.displayOn = false → s.mode = .hBlank ∧ s.ly = 0 ∧ s.wlc = 0 ∧ Agenda s.now none s.entries
  on : s.displayOn = true →
    LineFits s.mode s.ly.toNat s.wlc ∧ ∃ t, t ≤ s.now + 456 ∧ t < panicTime ∧ Agenda s.now (some t) s.entries

theorem SameDisplay.midStep {s t : State} (h : SameDisplay s t) (m : MidStep s) : MidStep t := by
  obtain ⟨now, -, entries, mode, wlc, on, line⟩ := h
  refine ⟨?_, fun isOff => ?_, fun isOn => ?_⟩
  · rw [now]; exact m.beforePanic
  · rw [mode, line, wlc, entries, now]; exact m.off (on ▸ isOff)
  · rw [mode, line, wlc, entries, now]; exact m.on (on ▸ isOn)

/-- With nothing due, and no fault, it is the consistency between steps. -/
theorem MidStep.consistent {s : State} (m : MidStep s) (noFault : s.modelFault = none)
    (notDue : ∀ ev rest, s.entries = ev :: rest → s.now < ev.time) : DisplayConsistent s := by
  refine ⟨m.beforePanic, noFault, fun off => ?_, fun on => ?_⟩
  · obtain ⟨mode, line, wlc, agenda⟩ := m.off off
    obtain ⟨-, entries⟩ | ⟨t, d, -⟩ := agenda.notDue notDue
    · exact ⟨mode, line, wlc, entries⟩
    · cases d
  · obtain ⟨fits, t, near, early, agenda⟩ := m.on on
    obtain ⟨d, -⟩ | ⟨_, d, entries, ahead⟩ := agenda.notDue notDue
    · cases d
    · cases d
      exact ⟨⟨t, entries, ahead, near, early⟩, fits⟩

/-- The Timers entry of the step is pushed into the list that the CPU left (R331). -/
theorem pushTimers_midStep {u : State} (c : u.modelFault = none → DisplayConsistent u)
    (noFault : (schedPush { u with now := u.now + u.cycles } (u.now + u.cycles) .timers).modelFault = none) :
    MidStep (schedPush { u with now := u.now + u.cycles } (u.now + u.cycles) .timers) := by
  obtain ⟨before, early, pushed⟩ := schedPush_noFault noFault
  have c := c before
  rw [pushed]
  refine ⟨early, fun off => ?_, fun on => ?_⟩
  · obtain ⟨mode, line, wlc, entries⟩ := c.off off
    refine ⟨mode, line, wlc, ?_⟩
    show Agenda _ none (insertEvent _ u.entries)
    rw [entries]
    exact Agenda.pushTimers_off early
  · obtain ⟨⟨t, entries, ahead, near, tEarly⟩, fits⟩ := c.on on
    refine ⟨fits, t, Nat.le_trans near (Nat.add_le_add_right (Nat.le_add_right _ _) _), tEarly, ?_⟩
    show Agenda _ (some t) (insertEvent _ u.entries)
    rw [entries]
    exact Agenda.pushTimers_on early

/-- One due event of the loop. -/
theorem handleEvent_midStep {s : State} {ev : Event} {rest : List Event} (w : Memory.wf ioSize s.io = true) (m : MidStep s)
    (entries : s.entries = ev :: rest) (due : ev.time ≤ s.now)
    (noFault : (handleEvent ev { s with entries := rest }).modelFault = none) :
    MidStep (handleEvent ev { s with entries := rest }) := by
  have timers (other : MidStep { s with entries := rest }) (isTimers : ev = ⟨s.now, .timers⟩) :
      MidStep (handleEvent ev { s with entries := rest }) := by
    subst isTimers
    exact (timerAdvance_sameDisplay s.cycles { s with entries := rest }).midStep other
  cases on : s.displayOn with
  | false =>
    obtain ⟨mode, line, wlc, agenda⟩ := m.off on
    rw [entries] at agenda
    obtain ⟨isTimers, agenda⟩ | ⟨t, d, -⟩ := agenda.pop m.beforePanic due
    · exact timers ⟨m.beforePanic, fun _ => ⟨mode, line, wlc, agenda⟩,
        fun isOn => absurd (isOn.symm.trans on) (by decide)⟩ isTimers
    · cases d
  | true =>
    obtain ⟨fits, t, near, early, agenda⟩ := m.on on
    rw [entries] at agenda
    obtain ⟨isTimers, agenda⟩ | ⟨_, d, rfl, others⟩ := agenda.pop m.beforePanic due
    · exact timers ⟨m.beforePanic, fun isOff => absurd (isOff.symm.trans on) (by decide),
        fun _ => ⟨fits, t, near, early, agenda⟩⟩ isTimers
    · cases d
      obtain ⟨v, ends, pushed⟩ := ppuEvent_on (s := { s with entries := rest }) w t on
      have event : handleEvent ⟨t, .ppu⟩ { s with entries := rest } =
          schedPush v (t + phaseLength s.nextMode) .ppu := pushed
      rw [event] at noFault ⊢
      obtain ⟨-, soon, inserted⟩ := schedPush_noFault noFault
      rw [inserted]
      have now : v.now = s.now := ends.now
      have entries : v.entries = rest := ends.entries
      refine ⟨now ▸ m.beforePanic, fun off => absurd (off.symm.trans (ends.displayOn.trans on)) (by decide), fun _ =>
        ⟨ends.lineFits fits, t + phaseLength s.nextMode, ?_, soon, ?_⟩⟩
      · show t + phaseLength s.nextMode ≤ v.now + 456
        rw [now]
        exact Nat.add_le_add due (phaseLength_le _)
      · show Agenda v.now _ (insertEvent _ v.entries)
        rw [now, entries]
        exact others.pushDisplay soon

theorem handleEvent_wf {s : State} (ev : Event) (w : Memory.wf ioSize s.io = true) :
    Memory.wf ioSize (handleEvent ev s).io = true := by
  unfold handleEvent
  split
  · exact w
  · exact w
  · cases on : s.displayOn with
    | false => rwa [ppuEvent_off _ on]
    | true =>
      obtain ⟨v, ends, pushed⟩ := ppuEvent_on w ev.time on
      rw [pushed, schedPush_io]
      exact ends.ioCanonical
  · exact timerAdvance_wf s.cycles w
  · exact w

/-- The rest of a step, when no fault is latched, brings display and scheduler back to agreement (R331, R346). -/
theorem passTime_consistent {u : State} (w : Memory.wf ioSize u.io = true) (c : u.modelFault = none → DisplayConsistent u)
    (noFault : (passTime u).modelFault = none) : DisplayConsistent (passTime u) := by
  obtain ⟨-, mid⟩ : Memory.wf ioSize (passTime u).io = true ∧ ((passTime u).modelFault = none → MidStep (passTime u)) :=
    runDue_keeps (P := fun s => Memory.wf ioSize s.io = true ∧ (s.modelFault = none → MidStep s))
      (fun ev rest s ⟨w, mid⟩ entries due fresh => ⟨handleEvent_wf ev w, handleEvent_midStep w (mid fresh) entries due⟩) _
      ⟨by rwa [schedPush_io], pushTimers_midStep c⟩
  refine (mid noFault).consistent noFault fun ev rest entries => Nat.not_le.mp fun due => ?_
  exact runDue_ends_not_due _ ⟨noFault, ev, rest, entries, due⟩

/-- A step that raised Fatal has changed the record alone (R331, R360). -/
theorem cpuStep_fatal {s u : State} (h : cpuStep s = .next u) (before : s.fatal = none) (after : u.fatal.isSome = true) :
    u = { s with fatal := u.fatal } := by
  have wakeFatal : (wake s).fatal = none := by
    unfold wake
    split <;> exact before
  obtain ⟨-, rfl⟩ | ⟨-, -, rfl⟩ | ⟨-, -, t, executed, rfl⟩ := cpuStep_cases h
  · rw [interruptEntry_fatal, wakeFatal] at after
    cases after
  · rw [State.charge_fatal, before] at after
    cases after
  · cases stop : t.fatal with
    | some r => simp only [afterExec, stop]
    | none =>
      rw [afterExec, stop] at after
      simp only [finishEi_fatal, stop] at after
      cases after

/-! The shape of the buffer (R52, R434). -/

theorem FrameShape.of_frame {s t : State} (h : FrameShape s) (fb : t.fb = s.fb) (bgidx : t.bgidx = s.bgidx) :
    FrameShape t := by
  obtain ⟨rows, columns, indices⟩ := h
  exact ⟨fb ▸ rows, fb ▸ columns, bgidx ▸ indices⟩

theorem renderScanline_frameShape {s : State} (h : FrameShape s) : FrameShape (renderScanline s) where
  rows := List.length_set.trans h.rows
  columns row member := by
    rcases List.mem_or_eq_of_mem_set member with old | rfl
    · exact h.columns row old
    · simp [State.lineColours]
  indices := by simp [renderScanline]

theorem schedPush_frameShape {s : State} (t : Nat) (k : EventKind) (h : FrameShape s) : FrameShape (schedPush s t k) :=
  h.of_frame (congrArg (·.1) (schedPush_frame s t k)) (congrArg (·.2.1) (schedPush_frame s t k))

theorem ppuEvent_frameShape {s : State} (t : Nat) (h : FrameShape s) : FrameShape (ppuEvent t s) := by
  by_cases scan : s.displayOn = true ∧ s.mode = .oamScan
  · rw [ppuEvent_oamScan t scan.1 scan.2]
    exact schedPush_frameShape _ _ (renderScanline_frameShape ⟨h.rows, h.columns, h.indices⟩)
  · have other : s.displayOn = false ∨ s.mode ≠ .oamScan := by
      rcases Decidable.not_and_iff_or_not.mp scan with off | mode
      · exact .inl (Bool.not_eq_true _ ▸ off)
      · exact .inr mode
    exact h.of_frame (congrArg (·.1) (ppuEvent_frame t other)) (congrArg (·.2.1) (ppuEvent_frame t other))

theorem handleEvent_frameShape {s : State} (ev : Event) (h : FrameShape s) : FrameShape (handleEvent ev s) := by
  unfold handleEvent
  split
  · exact h
  · exact h
  · exact ppuEvent_frameShape _ h
  · have only := timerAdvance_only s.cycles s
    exact h.of_frame ((congrArg State.fb only).trans rfl) ((congrArg State.bgidx only).trans rfl)
  · exact ⟨h.rows, h.columns, h.indices⟩

theorem passTime_frameShape {u : State} (h : FrameShape u) : FrameShape (passTime u) :=
  runDue_keeps (P := FrameShape)
    (fun ev _ _ shape _ _ _ => handleEvent_frameShape ev ⟨shape.rows, shape.columns, shape.indices⟩) _
    (schedPush_frameShape _ _ ⟨h.rows, h.columns, h.indices⟩)

theorem hostKey_frameShape {s : State} (h : FrameShape s) : FrameShape (hostKey s) := by
  have only := hostKey_only s
  exact h.of_frame ((congrArg State.fb only).trans rfl) ((congrArg State.bgidx only).trans rfl)

theorem cpuStep_frameShape {s u : State} (ran : cpuStep s = .next u) (h : FrameShape s) : FrameShape u := by
  obtain ⟨v, ws, r, -, rfl | rfl⟩ := cpuStep_shape ran
  · exact h.of_frame (stores_sameOffBus s ws).fb (stores_sameOffBus s ws).bgidx
  · exact h.of_frame (stores_sameOffBus (s.setIo offIF v) ws).fb (stores_sameOffBus (s.setIo offIF v) ws).bgidx

end Sys2Proof.Machine

open Sys2Proof Sys2Proof.Machine

/-- Settles O59: the CPU's part, the due events and the key event each keep it. -/
theorem stepKeepsDisplayConsistent : Obligations.StepKeepsDisplayConsistent := by
  intro s t canonical consistent stepped
  obtain ⟨noFatal, -, u, ran, ⟨stop, rfl⟩ | ⟨-, finished⟩⟩ := step_cases stepped
  · rw [cpuStep_fatal ran noFatal stop]
    have same : SameDisplay s { s with fatal := t.fatal } := ⟨rfl, rfl, rfl, rfl, rfl, rfl, rfl⟩
    exact ⟨same.consistent consistent, fun shape => shape.of_frame rfl rfl⟩
  · obtain ⟨noFault, rfl⟩ := finishStep_cases finished
    obtain ⟨w, kept⟩ := cpuStep_consistent ran canonical consistent
    exact ⟨(hostKey_sameDisplay _).consistent (passTime_consistent w kept noFault),
      fun shape => hostKey_frameShape (passTime_frameShape (cpuStep_frameShape ran shape))⟩

end

section
/-! PROOFS. The sprites of a scanline (R426 to R430): which the line has, what each draws, and which shows (O51). -/

namespace Sys2Proof.Machine

/-! The stable sort by X (R429). -/

section
variable {o p q : Sprite} {early late os : List Sprite}

theorem mem_insertByX : q ∈ insertByX p os ↔ q = p ∨ q ∈ os := by
  induction os with
  | nil => simp [insertByX]
  | cons e os ih =>
    unfold insertByX
    split
    · simp
    · simp only [List.mem_cons, ih]
      tauto

theorem mem_foldl_insertByX : q ∈ late.foldl (fun acc p => insertByX p acc) os ↔ q ∈ late ∨ q ∈ os := by
  induction late generalizing os with
  | nil => simp
  | cons p late ih =>
    simp only [List.foldl_cons, ih, mem_insertByX, List.mem_cons]
    tauto

theorem mem_sortByX : q ∈ sortByX os ↔ q ∈ os := by
  simp [sortByX, mem_foldl_insertByX]

/-- What stands before an inserted sprite has no larger X. -/
theorem insertByX_split (o : Sprite) (os : List Sprite) :
    ∃ early late, os = early ++ late ∧ insertByX o os = early ++ o :: late ∧ ∀ e ∈ early, e.x.toNat ≤ o.x.toNat := by
  induction os with
  | nil => exact ⟨[], [], rfl, rfl, by simp⟩
  | cons p os ih =>
    unfold insertByX
    split
    next first => exact ⟨[], p :: os, rfl, rfl, by simp⟩
    next later =>
      obtain ⟨early, late, parts, inserted, low⟩ := ih
      refine ⟨p :: early, late, by rw [parts]; rfl, by rw [inserted]; rfl, fun e he => ?_⟩
      rcases List.mem_cons.mp he with rfl | he
      · exact Nat.not_lt.mp later
      · exact low e he

/-- A later sprite comes before `o` only where its X is smaller. -/
theorem insertByX_around (p : Sprite) (low : ∀ e ∈ early, e.x.toNat ≤ o.x.toNat) :
    ∃ early' late', insertByX p (early ++ o :: late) = early' ++ o :: late'
      ∧ ∀ q ∈ early', q ∈ early ∨ (q = p ∧ p.x.toNat < o.x.toNat) := by
  induction early with
  | nil =>
    rw [List.nil_append, insertByX]
    split
    next smaller => exact ⟨[p], late, rfl, by simp [smaller]⟩
    next => exact ⟨[], insertByX p late, rfl, by simp⟩
  | cons e early ih =>
    obtain ⟨lowE, low⟩ := List.forall_mem_cons.mp low
    rw [List.cons_append, insertByX]
    split
    next smaller =>
      refine ⟨p :: e :: early, late, rfl, fun q hq => ?_⟩
      rcases List.mem_cons.mp hq with rfl | hq
      · exact .inr ⟨rfl, Nat.lt_of_lt_of_le smaller lowE⟩
      · exact .inl hq
    next =>
      obtain ⟨early', late', inserted, kept⟩ := ih low
      refine ⟨e :: early', late', by rw [inserted]; rfl, fun q hq => ?_⟩
      rcases List.mem_cons.mp hq with rfl | hq
      · exact .inl List.mem_cons_self
      · exact (kept q hq).imp_left (List.mem_cons_of_mem e)

theorem foldl_insertByX_around (after : List Sprite) (low : ∀ e ∈ early, e.x.toNat ≤ o.x.toNat) :
    ∃ early' late', after.foldl (fun acc p => insertByX p acc) (early ++ o :: late) = early' ++ o :: late'
      ∧ ∀ q ∈ early', q ∈ early ∨ (q ∈ after ∧ q.x.toNat < o.x.toNat) := by
  induction after generalizing early late with
  | nil => exact ⟨early, late, rfl, fun q hq => .inl hq⟩
  | cons p after ih =>
    obtain ⟨early₁, late₁, inserted, kept₁⟩ := insertByX_around (late := late) p low
    have low₁ : ∀ e ∈ early₁, e.x.toNat ≤ o.x.toNat := fun e he => by
      rcases kept₁ e he with old | ⟨rfl, smaller⟩
      · exact low e old
      · exact Nat.le_of_lt smaller
    obtain ⟨early₂, late₂, folded, kept₂⟩ := ih (late := late₁) low₁
    refine ⟨early₂, late₂, by rw [List.foldl_cons, inserted, folded], fun q hq => ?_⟩
    rcases kept₂ q hq with inner | ⟨listed, smaller⟩
    · exact (kept₁ q inner).imp_right fun ⟨same, smaller⟩ => ⟨same ▸ List.mem_cons_self, same ▸ smaller⟩
    · exact .inr ⟨List.mem_cons_of_mem p listed, smaller⟩

/-- What the sort puts before `o`: earlier sprites of no larger X and later ones of a smaller X. -/
theorem sortByX_split (before after : List Sprite) (o : Sprite) :
    ∃ early late, sortByX (before ++ o :: after) = early ++ o :: late
      ∧ ∀ q ∈ early, (q ∈ before ∧ q.x.toNat ≤ o.x.toNat) ∨ (q ∈ after ∧ q.x.toNat < o.x.toNat) := by
  obtain ⟨early₁, late₁, parts, inserted, low⟩ := insertByX_split o (sortByX before)
  obtain ⟨early, late, folded, kept⟩ := foldl_insertByX_around (late := late₁) after low
  refine ⟨early, late, ?_, fun q hq => (kept q hq).imp_left fun old => ⟨?_, low q old⟩⟩
  · rw [← folded, ← inserted]
    simp only [sortByX, List.foldl_append, List.foldl_cons]
  · rw [← mem_sortByX, parts]
    exact List.mem_append_left _ old

end

/-! The pixel (R426, R429). -/

section
variable {s : State} {px : Nat}

theorem pixelColour_cons (o : Sprite) (os : List Sprite) :
    s.pixelColour (o :: os).reverse px = (s.drawnAt o px).getD (s.pixelColour os.reverse px) := by
  simp [State.pixelColour]

/-- With none of them drawing there, the background shows. -/
theorem pixelColour_none {os : List Sprite} (none : ∀ o ∈ os, s.drawnAt o px = none) :
    s.pixelColour os.reverse px = s.bgColour px := by
  induction os with
  | nil => rfl
  | cons o os ih =>
    obtain ⟨first, rest⟩ := List.forall_mem_cons.mp none
    rw [pixelColour_cons, first, Option.getD_none, ih rest]

/-- The first of the sorted list that draws there shows, for it is drawn last. -/
theorem pixelColour_first {early late : List Sprite} {o : Sprite} {colour : BitVec 32}
    (shows : s.drawnAt o px = some colour)
    (none : ∀ q ∈ early, s.drawnAt q px = none) : s.pixelColour (early ++ o :: late).reverse px = colour := by
  induction early with
  | nil => rw [List.nil_append, pixelColour_cons, shows, Option.getD_some]
  | cons e early ih =>
    obtain ⟨first, rest⟩ := List.forall_mem_cons.mp none
    rw [List.cons_append, pixelColour_cons, first, Option.getD_none, ih rest]

theorem drawList_on (on : bitOf s.lcdc 1 = true) : s.drawList = (sortByX s.selected).reverse := if_pos on

end

/-! One sprite (R427, R428, R430). -/

theorem spriteHeight_int (s : State) : (s.spriteHeight : Int) = if bitOf s.lcdc 2 then 16 else 8 := by
  unfold State.spriteHeight
  split <;> rfl

theorem coversLine_eq (s : State) (o : Sprite) : s.coversLine o = (decide ((o.y.toNat : Int) - 16 ≤ s.ly.toNat)
    && decide ((s.ly.toNat : Int) < (o.y.toNat : Int) - 16 + if bitOf s.lcdc 2 then 16 else 8)) := by
  rw [← spriteHeight_int, State.coversLine]
  congr 1 <;> exact decide_eq_decide.mpr (by omega)

theorem spriteRow_eq {s : State} {o : Sprite} (covers : s.coversLine o = true) : s.spriteRow o =
    (if bitOf o.attr 6 then (if bitOf s.lcdc 2 then 16 else 8) - 1 - ((s.ly.toNat : Int) - ((o.y.toNat : Int) - 16))
      else (s.ly.toNat : Int) - ((o.y.toNat : Int) - 16)).toNat := by
  simp only [State.coversLine, Bool.and_eq_true, decide_eq_true_eq] at covers
  rw [← spriteHeight_int, State.spriteRow]
  split <;> omega

theorem even_tile (t : Byte) : (t &&& 0xFE).toNat = t.toNat / 2 * 2 := by
  revert t
  decide +kernel

/-- The index that a sprite has at column `k` from its left edge, in numbers (R424, R427, R430). -/
theorem spritePix_toNat (s : State) (o : Sprite) (k : Nat) (r c : Nat)
    (row : r = 0x8000 + 16 * (if bitOf s.lcdc 2 then o.tile.toNat / 2 * 2 else o.tile.toNat) + 2 * s.spriteRow o)
    (column : c = if bitOf o.attr 5 then 7 - k else k) : (s.spritePix o k).toNat =
      2 * ((s.vr (r + 1)).toNat / 2 ^ (7 - c) % 2) + (s.vr r).toNat / 2 ^ (7 - c) % 2 := by
  have tile : (if bitOf s.lcdc 2 then o.tile &&& 0xFE else o.tile).toNat =
      if bitOf s.lcdc 2 then o.tile.toNat / 2 * 2 else o.tile.toNat := by
    rw [apply_ite BitVec.toNat, even_tile]
  rw [row, column, ← tile]
  exact tilePix_toNat s _ _

theorem some_shadeNumber (sh : Shades) (n : Nat) : some (shadeNumber sh n) = match n with
    | 0 => some sh.shade0
    | 1 => some sh.shade1
    | 2 => some sh.shade2
    | _ => some sh.shade3 := by
  rcases n with _ | _ | _ | n <;> rfl

section
variable {s : State} {o : Sprite} {px : Nat}

theorem drawnAt_outside (h : ¬(o.x.toNat ≤ px + 8 ∧ px + 8 < o.x.toNat + 8)) : s.drawnAt o px = none := if_neg h

theorem drawnAt_inside (h : o.x.toNat ≤ px + 8 ∧ px + 8 < o.x.toNat + 8) {i : Nat}
    (index : (s.spritePix o (px + 8 - o.x.toNat)).toNat = i) : s.drawnAt o px =
      if i = 0 ∨ (bitOf o.attr 7 = true ∧ s.bgIndex px ≠ 0) then none
      else some (shadeNumber s.cfg.shade
        ((Memory.read s.io (if bitOf o.attr 4 then 0x49 else 0x48)).toNat / 4 ^ i % 4)) := by
  have palette : (if bitOf o.attr 4 then s.ioByte offOBP1 else s.ioByte offOBP0) =
      Memory.read s.io (if bitOf o.attr 4 then 0x49 else 0x48) := by split <;> rfl
  subst index
  rw [State.drawnAt, if_pos h, palette]
  dsimp only
  rw [shadeOf_pal]
  by_cases empty : s.spritePix o (px + 8 - o.x.toNat) = 0
  · rw [if_pos empty, if_pos (.inl (by rw [empty]; rfl))]
  · have shown : (s.spritePix o (px + 8 - o.x.toNat)).toNat ≠ 0 := fun zero => empty (BitVec.eq_of_toNat_eq zero)
    simp only [if_neg empty, shown, false_or]

end

end Sys2Proof.Machine

open Sys2Proof Sys2Proof.Machine

/-- Settles O51: the sort puts before the sprite that shows only such as do not draw at the pixel. -/
theorem spritePriority : Obligations.SpritePriority := by
  intro s px ly lcdc vr height entry top covers drawn
  have covered : s.coversLine = covers := funext (coversLine_eq s)
  refine ⟨?_, fun o selected => ?_, fun none => ?_, fun on before after o colour parts shows lower higher => ?_⟩
  · rw [State.selected, covered]
    rfl
  · have onLine : s.coversLine o = true := (List.mem_filter.mp (List.mem_of_mem_take selected)).2
    by_cases inside : o.x.toNat ≤ px + 8 ∧ px + 8 < o.x.toNat + 8
    · have column : (px : Int) - ((o.x.toNat : Int) - 8) = (px + 8 - o.x.toNat : Nat) := by omega
      have index := spritePix_toNat s o (px + 8 - o.x.toNat) _
        (if bitOf o.attr 5 then 7 - ((px : Int) - ((o.x.toNat : Int) - 8)) else (px : Int) - ((o.x.toNat : Int) - 8)).toNat
        rfl (by split <;> omega)
      rw [spriteRow_eq onLine] at index
      rw [drawnAt_inside inside index]
      refine if_congr ⟨fun blank => .inr (.inr blank), ?_⟩ rfl ?_
      · rintro (left | right | blank)
        · omega
        · omega
        · exact blank
      · exact some_shadeNumber s.cfg.shade _
    · rw [drawnAt_outside inside]
      refine (if_pos ?_).symm
      omega
  · cases on : bitOf s.lcdc 1 with
    | false => exact pixelColour_spritesOff on px
    | true =>
      have undrawn := none.resolve_left (by rw [show lcdc 1 = true from on]; decide)
      rw [drawList_on on]
      exact pixelColour_none fun o ho => undrawn o (mem_sortByX.mp ho)
  · obtain ⟨early, late, sorted, first⟩ := sortByX_split before after o
    rw [drawList_on on, parts, sorted]
    refine pixelColour_first shows fun q hq => ?_
    rcases first q hq with ⟨listed, low⟩ | ⟨listed, low⟩
    · exact (lower q listed).resolve_right (Nat.not_lt.mpr low)
    · exact (higher q listed).resolve_right (Nat.not_le.mpr low)

end

section
/-! PROOFS. The low nibble of F (R22): what each instruction leaves in F, page by page of the decoder (R151, R152), and that no
step sets a bit there (O57). -/

namespace Sys2Proof.Machine

/-! F after the operations on the state. -/

theorem flagsByte_low (z n h c : Bool) : flagsByte z n h c &&& 0x0F = 0 := by
  cases z <;> cases n <;> cases h <;> cases c <;> decide

/-- A write of F stores no low nibble (R22). -/
theorem masked_low (v : Byte) : v &&& 0xF0 &&& 0x0F = 0 := by
  rw [BitVec.and_assoc]
  exact BitVec.and_zero

section
variable (s : State)

@[simp] theorem State.setPair_f (p : RegPair) (w : Word) : (s.setPair p w).f = s.f := by cases p <;> rfl
@[simp] theorem State.movePointer_f (p : Pointer) : (s.movePointer p).f = s.f := by cases p <;> rfl
@[simp] theorem State.memWrite_f (a : Word) (v : Byte) : (s.memWrite a v).f = s.f := busWrite_f s a v
@[simp] theorem State.memWrite16_f (a v : Word) : (s.memWrite16 a v).f = s.f := (busWrite_f _ _ _).trans (busWrite_f _ _ _)
@[simp] theorem State.push16_f (w : Word) : (s.push16 w).f = s.f := State.memWrite16_f _ _ _

end

/-- The answer is a next state whose F has a clear low nibble where that of `s` has one. -/
def KeepsFlagsClean (s : State) (x : Result) : Prop := ∃ t, x = .next t ∧ (FlagsClean s → FlagsClean t)

section
variable {s t u : State} {x y : Result}

theorem FlagsClean.of_f (clean : FlagsClean s) (f : t.f = s.f) : FlagsClean t := by rwa [FlagsClean, f]

/-- F is left as it is. -/
theorem KeepsFlagsClean.same (f : t.f = s.f) : KeepsFlagsClean s (.next t) := ⟨t, rfl, fun clean => clean.of_f f⟩

/-- F is written from the four flags (R215). -/
theorem KeepsFlagsClean.flags (z n h c : Bool) : KeepsFlagsClean s (.next (u.setFlags z n h c)) :=
  ⟨_, rfl, fun _ => flagsByte_low z n h c⟩

theorem KeepsFlagsClean.ite {c : Prop} [Decidable c] (yes : KeepsFlagsClean s x) (no : KeepsFlagsClean s y) :
    KeepsFlagsClean s (if c then x else y) := by
  split
  · exact yes
  · exact no

theorem KeepsFlagsClean.alu (op : AluOp) (v : Byte) : KeepsFlagsClean s (.next (aluOn op v u)) := by
  cases op <;> exact .flags _ _ _ _

/-- POP AF masks the byte that it takes from the stack (R204). -/
theorem KeepsFlagsClean.pop (p : StackPair) : KeepsFlagsClean s (popPair p s) := by
  cases p with
  | af => exact ⟨_, rfl, fun _ => masked_low _⟩
  | _ => exact .same rfl

theorem KeepsFlagsClean.call (target : Word) (len cost : Nat) : KeepsFlagsClean s (.next (callTo target len cost s)) :=
  .same (by simp [callTo])

theorem KeepsFlagsClean.stop (pad : Byte) : KeepsFlagsClean s (exec_stop pad s) := by
  unfold exec_stop
  split <;> exact .same rfl

end

/-! The pages of the decoder. -/

section
variable (y z : Nat) (n : Byte) (nn : Word) (s : State)

theorem decodeCb_keepsFlagsClean (sub : Byte) : KeepsFlagsClean s (exec (decodeCb sub) s) := by
  unfold decodeCb
  dsimp only
  split
  · exact exec_ofRot _ _ s ▸ .flags _ _ _ _
  · exact exec_ofRotHL _ s ▸ .flags _ _ _ _
  · exact exec_ofBit _ _ s ▸ .flags _ _ _ _
  · exact exec_ofBitHL _ s ▸ .flags _ _ _ _
  · exact exec_ofRes _ _ s ▸ .same (by simp)
  · exact exec_ofResHL _ s ▸ .same (by simp)
  · exact exec_ofSet _ _ s ▸ .same (by simp)
  · exact exec_ofSetHL _ s ▸ .same (by simp)

theorem decodeX0_keepsFlagsClean : KeepsFlagsClean s (exec (decodeX0 y z n nn) s) := by
  unfold decodeX0
  dsimp only
  split
  · split
    · exact .same rfl
    · exact .same (by simp)
    · exact .stop n
    · exact .same rfl
    · exact exec_ofJr _ _ s ▸ .ite (.same rfl) (.same rfl)
  · split
    · exact exec_ofLdPair _ _ s ▸ .same (by simp)
    · exact exec_ofAddHL _ s ▸ .flags _ _ _ _
  · split
    · exact exec_ofLdATo s _ ▸ .same (by simp)
    · exact exec_ofLdAFrom s _ ▸ .same (by simp)
  · split
    · exact exec_ofIncPair _ s ▸ .same (by simp)
    · exact exec_ofDecPair _ s ▸ .same (by simp)
  · split
    · exact exec_ofInc _ s ▸ .flags _ _ _ _
    · exact .flags _ _ _ _
  · split
    · exact exec_ofDec _ s ▸ .flags _ _ _ _
    · exact .flags _ _ _ _
  · split
    · exact exec_ofLdImm s _ _ ▸ .same (by simp)
    · exact .same (by simp)
  · split <;> exact .flags _ _ _ _

theorem decodeX1_keepsFlagsClean : KeepsFlagsClean s (exec (decodeX1 y z) s) := by
  unfold decodeX1
  split
  · exact exec_ofLdReg s _ _ ▸ .same (by simp)
  · exact exec_ofLdFromHL s _ ▸ .same (by simp)
  · exact exec_ofLdToHL s _ ▸ .same (by simp)
  · exact .same rfl

theorem decodeX2_keepsFlagsClean : KeepsFlagsClean s (exec (decodeX2 y z) s) := by
  unfold decodeX2
  split
  · exact exec_ofAluReg _ _ s ▸ .alu _ _
  · generalize aluField y = op
    cases op <;> exact .alu _ _

theorem decodeX3_keepsFlagsClean : KeepsFlagsClean s (exec (decodeX3 y z n nn) s) := by
  unfold decodeX3
  dsimp only
  split
  · split
    · exact .same (by simp)
    · exact .flags _ _ _ _
    · exact .same (by simp)
    · exact .flags _ _ _ _
    · exact exec_ofRet _ s ▸ .ite (.same rfl) (.same rfl)
  · split
    · exact exec_ofPop _ s ▸ .pop _
    · split <;> exact .same rfl
  · split
    · exact .same (by simp)
    · exact .same (by simp)
    · exact .same (by simp)
    · exact .same (by simp)
    · exact exec_ofJp _ _ s ▸ .ite (.same rfl) (.same rfl)
  · split
    · exact .same rfl
    · exact decodeCb_keepsFlagsClean s n
    · exact .same rfl
    · exact .same rfl
    · exact .same rfl
    · exact .same rfl
    · exact .same rfl
    · exact .ite (.same rfl) (.same rfl)
  · split
    · exact .same rfl
    · exact .same rfl
    · exact .same rfl
    · exact .same rfl
    · exact exec_ofCall _ _ s ▸ .ite (.call _ _ _) (.same rfl)
  · split
    · exact exec_ofPush _ s ▸ .same (by simp)
    · split
      · exact .call _ _ _
      all_goals exact .same rfl
  · generalize aluField y = op
    cases op <;> exact .alu _ _
  · exact exec_ofRst _ s ▸ .call _ _ _

/-- Every instruction is decoded from some bytes (`decodeBytes_encode`), so it stands on one of the four pages. -/
theorem exec_keepsFlagsClean (i : Instr) : KeepsFlagsClean s (exec i s) := by
  obtain ⟨b, n, m, rfl⟩ : ∃ b n m, decodeBytes b n m = i := ⟨_, _, _, decodeBytes_encode i⟩
  unfold decodeBytes
  dsimp only
  split
  · exact decodeX0_keepsFlagsClean _ _ _ _ s
  · exact decodeX1_keepsFlagsClean _ _ s
  · exact decodeX2_keepsFlagsClean _ _ s
  · exact decodeX3_keepsFlagsClean _ _ _ _ s

end

/-! The step. -/

theorem finishEi_f (armed : Bool) (t : State) : (finishEi armed t).f = t.f := by
  unfold finishEi
  split <;> rfl

/-- The wake test writes `halted` alone (R366). -/
theorem wake_only (s : State) : wake s = { s with halted := (wake s).halted } := by
  unfold wake
  split <;> rfl

theorem wake_f (s : State) : (wake s).f = s.f := by rw [wake_only]

theorem interruptEntry_f (i : Nat) (s : State) : (interruptEntry i s).f = s.f :=
  (congrArg State.f (interruptEntry_withCpu i s s.cpu)).trans rfl

theorem cpuStep_keepsFlagsClean {s u : State} (h : cpuStep s = .next u) (clean : FlagsClean s) : FlagsClean u := by
  have woken : FlagsClean (wake s) := clean.of_f (wake_f s)
  obtain ⟨-, rfl⟩ | ⟨-, -, rfl⟩ | ⟨-, -, t, executed, rfl⟩ := cpuStep_cases h
  · exact woken.of_f (interruptEntry_f _ _)
  · exact clean
  · obtain ⟨_, next, kept⟩ := exec_keepsFlagsClean (wake s) s.fetched
    obtain rfl := Host.Outcome.next.inj (executed.symm.trans next)
    unfold afterExec
    split
    · exact clean
    · exact (kept woken).of_f (finishEi_f _ _)

/-- What `CpuStep` keeps and the rest of a machine step keeps, the step keeps. -/
theorem step_keeps {P : State → Prop} {s t : State} (h : step s = .next t) (cpu : ∀ {u}, cpuStep s = .next u → P u)
    (rest : ∀ {u}, finishStep u = .next t → P u → P t) : P t := by
  obtain ⟨-, -, u, ran, ⟨-, rfl⟩ | ⟨-, finished⟩⟩ := step_cases h
  · exact cpu ran
  · exact rest finished (cpu ran)

end Sys2Proof.Machine

open Sys2Proof Sys2Proof.Machine

/-- Settles O57: only `CpuStep` writes F. -/
theorem stepKeepsFlagsClean : Obligations.StepKeepsFlagsClean := fun _ _ clean stepped =>
  step_keeps stepped (cpuStep_keepsFlagsClean · clean)
    fun finished kept => kept.of_f (congrArg CpuRegs.f (finishStep_fields finished).1)

end

section
/-! PROOFS. The arrays and the devices through a step (R22, R30, R39, R42, R51, R54, R55, R105, R113, R118, R122): what each
part of the step keeps of the canonical form, of the masked registers, of the timer's sub-counters, of the bank registers and
of `ei_pending` (O58), and from these and the earlier ones the whole invariant (O60). -/

namespace Sys2Proof.Machine

/-! The CPU's part of a step. -/

/-- What every store keeps, the clearing of an interrupt flag and any change of the CPU's part, `CpuStep` keeps
(`cpuStep_shape`). -/
theorem cpuStep_keeps {P : State → Prop} (store : ∀ {s} (a : Word) (v : Byte), P s → P (busWrite s a v))
    (flag : ∀ {s} (v : Byte), P s → P (s.setIo offIF v)) (cpu : ∀ {s} (r : CpuRegs), P s → P (s.withCpu r)) {s u : State}
    (h : cpuStep s = .next u) (before : P s) : P u := by
  have stores (ws : List (Word × Byte)) : ∀ {s}, P s → P (s.stores ws) := by
    induction ws with
    | nil => exact id
    | cons w ws ih => exact fun kept => ih (store w.1 w.2 kept)
  obtain ⟨v, ws, r, -, rfl | rfl⟩ := cpuStep_shape h
  · exact cpu r (stores ws before)
  · exact cpu r (stores ws (flag v before))

/-! The canonical form (R54, R55, R105). -/

theorem withCpu_canonical {s : State} (r : CpuRegs) (canonical : MemoriesCanonical s) : MemoriesCanonical (s.withCpu r) := by
  obtain ⟨ramNonempty, wram, hram, io, vram, oam, cartRam⟩ := canonical
  exact ⟨ramNonempty, wram, hram, io, vram, oam, cartRam⟩

theorem cpuStep_canonical {s u : State} (h : cpuStep s = .next u) (canonical : MemoriesCanonical s) : MemoriesCanonical u :=
  cpuStep_keeps (P := MemoriesCanonical) (fun _ _ => busWrite_canonical)
    (fun _ canonical => setIo_canonical canonical (by decide)) withCpu_canonical h canonical

theorem passTime_io_wf {u : State} (w : Memory.wf ioSize u.io = true) : Memory.wf ioSize (passTime u).io = true :=
  runDue_keeps (P := fun s => Memory.wf ioSize s.io = true) (fun ev _ _ w _ _ _ => handleEvent_wf ev w) _
    (by rwa [schedPush_io])

theorem hostKey_io_wf {s : State} (w : Memory.wf ioSize s.io = true) : Memory.wf ioSize (hostKey s).io = true := by
  unfold hostKey
  split
  · exact w
  · exact w
  · unfold applyKey
    dsimp only
    split
    · exact raiseIf_wf w
    · exact w

/-- The rest of a step touches the I/O array alone (`finishStep_fields`). -/
theorem finishStep_canonical {u t : State} (h : finishStep u = .next t) (canonical : MemoriesCanonical u) :
    MemoriesCanonical t := by
  obtain ⟨-, -, cfg, -, -, cartRam, wram, hram, vram, oam, -⟩ := finishStep_fields h
  obtain ⟨-, rfl⟩ := finishStep_cases h
  exact ⟨cfg ▸ canonical.ramNonempty, wram ▸ canonical.wram, hram ▸ canonical.hram,
    hostKey_io_wf (passTime_io_wf canonical.io), vram ▸ canonical.vram, oam ▸ canonical.oam,
    cfg ▸ cartRam ▸ canonical.cartRam⟩

/-! Which parts of a device a store writes. -/

/-- A store outside the I/O registers touches none of them, nor the timer. -/
theorem busWrite_notIo {s : State} {a : Word} {v : Byte} (notIo : ¬(0xFF00 ≤ a.toNat ∧ a.toNat ≤ 0xFF7F)) :
    (busWrite s a v).io = s.io ∧ (busWrite s a v).divSub = s.divSub := by
  unfold busWrite
  dsimp only
  split; · exact ⟨rfl, rfl⟩
  split; · split <;> exact ⟨rfl, rfl⟩
  split; · exact ⟨rfl, rfl⟩
  split; · exact ⟨rfl, rfl⟩
  split; · exact ⟨rfl, rfl⟩
  split; · split <;> exact ⟨rfl, rfl⟩
  split; · exact ⟨rfl, rfl⟩
  split; · exact absurd ⟨by omega, by omega⟩ notIo
  split <;> exact ⟨rfl, rfl⟩

theorem OnlyDisplay.cart {s t : State} (h : OnlyDisplay s t) : t.cart = s.cart := by
  unfold OnlyDisplay at h
  rw [h]

theorem OnlyDisplay.divSub {s t : State} (h : OnlyDisplay s t) : t.divSub = s.divSub := by
  unfold OnlyDisplay at h
  rw [h]

theorem OnlyDisplay.timaSub {s t : State} (h : OnlyDisplay s t) : t.timaSub = s.timaSub := by
  unfold OnlyDisplay at h
  rw [h]

/-- A store to an I/O register leaves the cartridge, and DIV's sub-counter but to clear it (R35). -/
theorem ioWrite_cart_divSub (s : State) (off : Nat) (v : Byte) :
    (ioWrite s off v).cart = s.cart ∧ ((ioWrite s off v).divSub = s.divSub ∨ (ioWrite s off v).divSub = 0) := by
  unfold ioWrite
  split; · exact ⟨rfl, .inl rfl⟩
  split; · exact ⟨rfl, .inr rfl⟩
  split; · exact ⟨(writeLcdc_only s v).cart, .inl (writeLcdc_only s v).divSub⟩
  split; · exact ⟨rfl, .inl rfl⟩
  split; · exact ⟨rfl, .inl rfl⟩
  split
  · have copied := oamCopy_eq (s.setIo offDMA v) v
    exact ⟨(congrArg State.cart copied).trans rfl, .inl ((congrArg State.divSub copied).trans rfl)⟩
  split <;> exact ⟨rfl, .inl rfl⟩

/-! The masked registers (R39, R42). -/

theorem MasksKept.of_read {s t : State} (masks : MasksKept s) (stat : Memory.read t.io 0x41 = Memory.read s.io 0x41)
    (p1 : Memory.read t.io 0x00 = Memory.read s.io 0x00) : MasksKept t := by
  obtain ⟨statMasked, p1Masked⟩ := masks
  exact ⟨(congrArg (· &&& 0x87) stat).trans statMasked, (congrArg (· &&& 0xCF) p1).trans p1Masked⟩

theorem setIo_masksKept {s : State} {off : Nat} {v : Byte} (masks : MasksKept s) (stat : off ≠ 0x41) (p1 : off ≠ 0x00) :
    MasksKept (s.setIo off v) := masks.of_read (read_setIo_other stat.symm) (read_setIo_other p1.symm)

/-- Their own stores mask them, and no other store to an I/O register writes them. -/
theorem ioWrite_masksKept {s : State} {off : Nat} {v : Byte} (w : Memory.wf ioSize s.io = true) (masks : MasksKept s) :
    MasksKept (ioWrite s off v) := by
  have ⟨statMasked, p1Masked⟩ := masks
  have disjoint (keep drop : Byte) (none : keep &&& drop = 0) : v &&& keep &&& drop = 0 := by
    rw [BitVec.and_assoc, none]
    exact BitVec.and_zero
  unfold ioWrite
  split
  · exact ⟨(congrArg (· &&& 0x87) (read_setIo_other (by decide))).trans statMasked,
      (congrArg (· &&& 0xCF) (read_setIo_same w)).trans (disjoint 0x30 0xCF (by decide))⟩
  split; · exact masks.of_read (read_setIo_other (by decide)) (read_setIo_other (by decide))
  split; · exact masks.of_read (read_writeLcdc_other (by decide) (by decide)) (read_writeLcdc_other (by decide) (by decide))
  split
  · exact ⟨(congrArg (· &&& 0x87) (read_setIo_same w)).trans (disjoint 0x78 0x87 (by decide)),
      (congrArg (· &&& 0xCF) (read_setIo_other (by decide))).trans p1Masked⟩
  split; · exact masks
  split
  · have io : (oamCopy (s.setIo offDMA v) v).io = (s.setIo offDMA v).io := (congrArg State.io (oamCopy_eq _ v)).trans rfl
    have stored : MasksKept (s.setIo offDMA v) := setIo_masksKept masks (by decide) (by decide)
    exact stored.of_read (congrArg (Memory.read · 0x41) io) (congrArg (Memory.read · 0x00) io)
  split; · exact masks.of_read (read_setIo_other (by decide)) (read_setIo_other (by decide))
  next p1 _ _ stat _ _ _ => exact setIo_masksKept masks stat p1

theorem busWrite_masksKept {s : State} {a : Word} {v : Byte} (w : Memory.wf ioSize s.io = true) (masks : MasksKept s) :
    MasksKept (busWrite s a v) := by
  by_cases io : 0xFF00 ≤ a.toNat ∧ a.toNat ≤ 0xFF7F
  · rw [busWrite_io io.1 io.2]
    exact ioWrite_masksKept w masks
  · have same := (busWrite_notIo (s := s) (v := v) io).1
    exact masks.of_read (congrArg (Memory.read · 0x41) same) (congrArg (Memory.read · 0x00) same)

theorem cpuStep_masksKept {s u : State} (h : cpuStep s = .next u) (canonical : MemoriesCanonical s) (masks : MasksKept s) :
    MasksKept u := by
  have kept : MemoriesCanonical u ∧ MasksKept u :=
    cpuStep_keeps (P := fun s => MemoriesCanonical s ∧ MasksKept s)
      (fun _ _ ⟨canonical, masks⟩ => ⟨busWrite_canonical canonical, busWrite_masksKept canonical.io masks⟩)
      (fun _ ⟨canonical, masks⟩ =>
        ⟨setIo_canonical canonical (by decide), setIo_masksKept masks (by decide) (by decide)⟩)
      (fun r ⟨canonical, masks⟩ => ⟨withCpu_canonical r canonical, masks⟩) h ⟨canonical, masks⟩
  exact kept.2

/-- A handler writes DIV, TIMA, IF and LY and no other I/O byte (R330). -/
theorem read_handleEvent_other (ev : Event) {s : State} (w : Memory.wf ioSize s.io = true) {k : Nat} (div : k ≠ 0x04)
    (tima : k ≠ 0x05) (flag : k ≠ 0x0F) (ly : k ≠ 0x44) : Memory.read (handleEvent ev s).io k = Memory.read s.io k := by
  unfold handleEvent
  split
  · rfl
  · rfl
  · cases on : s.displayOn with
    | false => rw [ppuEvent_off _ on]
    | true =>
      obtain ⟨v, ends, pushed⟩ := ppuEvent_on w ev.time on
      rw [pushed, schedPush_io]
      exact ends.ioOther k flag ly
  · exact read_timerAdvance_other _ _ div tima flag
  · rfl

theorem read_finishStep_other {u t : State} (h : finishStep u = .next t) (w : Memory.wf ioSize u.io = true) {k : Nat}
    (div : k ≠ 0x04) (tima : k ≠ 0x05) (flag : k ≠ 0x0F) (ly : k ≠ 0x44) : Memory.read t.io k = Memory.read u.io k := by
  obtain ⟨-, rfl⟩ := finishStep_cases h
  have passed : Memory.wf ioSize (passTime u).io = true ∧ Memory.read (passTime u).io k = Memory.read u.io k :=
    runDue_keeps (P := fun s => Memory.wf ioSize s.io = true ∧ Memory.read s.io k = Memory.read u.io k)
      (fun ev rest s ⟨w, same⟩ _ _ _ => ⟨handleEvent_wf ev w, 
        (read_handleEvent_other ev (s := { s with entries := rest }) w div tima flag ly).trans same⟩) _
      ⟨by rwa [schedPush_io], by rw [schedPush_io]⟩
  exact (read_hostKey_other _ flag).trans passed.2

theorem finishStep_masksKept {u t : State} (h : finishStep u = .next t) (canonical : MemoriesCanonical u)
    (masks : MasksKept u) : MasksKept t :=
  masks.of_read (read_finishStep_other h canonical.io (by decide) (by decide) (by decide) (by decide))
    (read_finishStep_other h canonical.io (by decide) (by decide) (by decide) (by decide))

/-! The timer's sub-counters (R51). -/

theorem busWrite_subCounters {s : State} {a : Word} {v : Byte} (bounded : SubCountersBounded s) :
    SubCountersBounded (busWrite s a v) := by
  obtain ⟨div, tima⟩ := bounded
  refine ⟨?_, (busWrite_timaSub s a v).symm ▸ tima⟩
  by_cases io : 0xFF00 ≤ a.toNat ∧ a.toNat ≤ 0xFF7F
  · rw [busWrite_io io.1 io.2]
    obtain same | cleared := (ioWrite_cart_divSub s (a.toNat - 0xFF00) v).2
    · rwa [same]
    · rw [cleared]
      decide
  · rwa [(busWrite_notIo (s := s) (v := v) io).2]

theorem cpuStep_subCounters {s u : State} (h : cpuStep s = .next u) (bounded : SubCountersBounded s) : SubCountersBounded u :=
  cpuStep_keeps (P := SubCountersBounded) (fun _ _ => busWrite_subCounters) (fun _ => id) (fun _ => id) h bounded

theorem timerPeriod_bounds (s : State) : 0 < s.timerPeriod ∧ s.timerPeriod ≤ 1024 := by
  unfold State.timerPeriod
  split <;> decide

theorem timerAdvance_subCounters (delta : Nat) {s : State} (bounded : SubCountersBounded s) :
    SubCountersBounded (timerAdvance delta s) := by
  refine ⟨timerAdvance_divSub delta s ▸ Nat.mod_lt _ (by decide), ?_⟩
  unfold timerAdvance advanceTima
  split
  · obtain ⟨positive, small⟩ := timerPeriod_bounds (advanceDiv delta s)
    exact Nat.lt_of_lt_of_le (Nat.mod_lt _ positive) small
  · rw [advanceDiv_timaSub]
    exact bounded.2

theorem handleEvent_subCounters (ev : Event) {s : State} (bounded : SubCountersBounded s) :
    SubCountersBounded (handleEvent ev s) := by
  unfold handleEvent
  split
  · exact bounded
  · exact bounded
  · have only := ppuEvent_only ev.time s
    exact ⟨only.divSub.symm ▸ bounded.1, only.timaSub.symm ▸ bounded.2⟩
  · exact timerAdvance_subCounters _ bounded
  · exact bounded

theorem finishStep_subCounters {u t : State} (h : finishStep u = .next t) (bounded : SubCountersBounded u) :
    SubCountersBounded t := by
  obtain ⟨-, rfl⟩ := finishStep_cases h
  have pushed := schedPush_only { u with now := u.now + u.cycles } (u.now + u.cycles) .timers
  have passed : SubCountersBounded (passTime u) := runDue_keeps (P := SubCountersBounded)
    (fun ev _ _ bounded _ _ _ => handleEvent_subCounters ev bounded) _
    ⟨pushed.divSub.symm ▸ bounded.1, pushed.timaSub.symm ▸ bounded.2⟩
  rw [hostKey_only]
  exact passed

/-! The bank registers (R113, R118, R122). -/

theorem forceOne_ne_zero {n : Nat} (wide : 0 < n) (b : BitVec n) : forceOne b ≠ 0 := by
  unfold forceOne
  split
  · exact mt BitVec.one_eq_zero_iff.mp (Nat.ne_of_gt wide)
  next nonzero => exact nonzero

/-- A bank register where 0 is illegal is written through `forceOne`. -/
theorem cartWriteRegs_legal {s : State} (a : Nat) (v : Byte) (legal : BanksLegal s) :
    BanksLegal { s with cart := cartWriteRegs s.cfg s.cart a v } := by
  unfold BanksLegal at legal ⊢
  cases cart : s.cart with
  | noMbc => trivial
  | mbc1 r =>
    rw [cart] at legal
    show (mbc1Write s.cfg r a v).bank1 ≠ 0
    unfold mbc1Write
    split; · exact legal
    split; · exact forceOne_ne_zero (by decide) _
    split <;> exact legal
  | mbc2 r =>
    rw [cart] at legal
    show (mbc2Write r a v).romBank ≠ 0
    unfold mbc2Write
    split
    · split
      · exact forceOne_ne_zero (by decide) _
      · exact legal
    · exact legal
  | mbc3 r =>
    rw [cart] at legal
    show (mbc3Write r a v).romBank ≠ 0
    unfold mbc3Write
    split; · exact legal
    split; · exact forceOne_ne_zero (by decide) _
    split
    · split <;> exact legal
    · exact legal
  | mbc5 r => trivial

theorem busWrite_cart {s : State} {a : Word} {v : Byte} (high : ¬a.toNat ≤ 0x7FFF) : (busWrite s a v).cart = s.cart := by
  unfold busWrite
  dsimp only
  rw [if_neg high]
  split; · split <;> rfl
  split; · rfl
  split; · rfl
  split; · rfl
  split; · split <;> rfl
  split; · rfl
  split; · exact (ioWrite_cart_divSub s _ v).1
  split <;> rfl

theorem busWrite_banksLegal {s : State} {a : Word} {v : Byte} (legal : BanksLegal s) : BanksLegal (busWrite s a v) := by
  by_cases rom : a.toNat ≤ 0x7FFF
  · rw [busWrite_rom rom]
    exact cartWriteRegs_legal _ _ legal
  · unfold BanksLegal
    rw [busWrite_cart rom]
    exact legal

theorem cpuStep_banksLegal {s u : State} (h : cpuStep s = .next u) (legal : BanksLegal s) : BanksLegal u :=
  cpuStep_keeps (P := BanksLegal) (fun _ _ => busWrite_banksLegal) (fun _ => id) (fun _ => id) h legal

theorem finishStep_banksLegal {u t : State} (h : finishStep u = .next t) (legal : BanksLegal u) : BanksLegal t := by
  obtain ⟨-, -, -, -, cart, -⟩ := finishStep_fields h
  unfold BanksLegal
  rwa [cart]

/-! EI's pending enable (R30). -/

/-- Under EI_DELAY = 0 no instruction writes it. -/
theorem exec_eiPending {i : Instr} {s t : State} (h : exec i s = .next t) (noDelay : s.cfg.eiDelay = false) :
    t.eiPending = s.eiPending := by
  rcases Instr.control_cases i with ordinary | rfl | ⟨pad, rfl⟩ | rfl | rfl | rfl | ⟨-, illegal⟩
  · obtain ⟨u, next, -, -, -, eiPending, -⟩ := exec_ordinary i s ordinary
    rwa [Host.Outcome.next.inj (h.symm.trans next)]
  · rw [← Host.Outcome.next.inj h]
    rfl
  · cases mode : s.cfg.stopMode with
    | nop2 =>
      rw [← Host.Outcome.next.inj ((exec_stop_nop2 pad mode).symm.trans h)]
    | fatal =>
      rw [← Host.Outcome.next.inj ((exec_stop_fatal pad mode).symm.trans h)]
  · rw [← Host.Outcome.next.inj h]
    exact if_neg (by simp [noDelay])
  · rw [← Host.Outcome.next.inj ((exec_ei_eq s).symm.trans h)]
    exact if_neg (by simp [noDelay])
  · rw [← Host.Outcome.next.inj h]
    rfl
  · obtain ⟨b, next⟩ := illegal s
    rw [Host.Outcome.next.inj (h.symm.trans next)]
    rfl

theorem wake_eiPending (s : State) : (wake s).eiPending = s.eiPending := by rw [wake_only]

theorem cpuStep_eiPendingUnused {s u : State} (h : cpuStep s = .next u) (unused : EiPendingUnused s) : EiPendingUnused u := by
  intro noDelay
  rw [(cpuStep_now_cfg h).2] at noDelay
  have clear := unused noDelay
  obtain ⟨-, rfl⟩ | ⟨-, -, rfl⟩ | ⟨-, -, t, executed, rfl⟩ := cpuStep_cases h
  · exact ((congrArg State.eiPending (interruptEntry_withCpu _ (wake s) (wake s).cpu)).trans (wake_eiPending s)).trans clear
  · exact clear
  · have kept := (exec_eiPending executed ((congrArg Config.eiDelay (wake_cfg s)).trans noDelay)).trans
      ((wake_eiPending s).trans clear)
    unfold afterExec
    split
    · exact clear
    · unfold finishEi
      split
      · rfl
      · exact kept

theorem finishStep_eiPendingUnused {u t : State} (h : finishStep u = .next t) (unused : EiPendingUnused u) :
    EiPendingUnused t := by
  obtain ⟨cpu, -, cfg, -⟩ := finishStep_fields h
  intro noDelay
  exact (congrArg CpuRegs.eiPending cpu).trans (unused (cfg ▸ noDelay))

end Sys2Proof.Machine

open Sys2Proof Sys2Proof.Machine

/-- Settles O58: every store keeps the canonical form (`busWrite_canonical`), and the handlers only store I/O bytes. -/
theorem stepKeepsMemories : Obligations.StepKeepsMemories := fun _ _ canonical stepped =>
  step_keeps stepped (cpuStep_canonical · canonical) finishStep_canonical

/-- Settles O60: each part of the invariant through `CpuStep` and then through the rest of the step; the parameters and the
display are O32 and O59. -/
theorem stepKeepsInvariant : Obligations.StepKeepsInvariant := by
  intro s t ⟨legal, flags, memories, masks, subCounters, banks, eiPending, frame, display⟩ stepped
  obtain ⟨displayKept, frameKept⟩ := stepKeepsDisplayConsistent s t memories display stepped
  have masked : MemoriesCanonical t ∧ MasksKept t := step_keeps (P := fun s => MemoriesCanonical s ∧ MasksKept s) stepped
    (fun ran => ⟨cpuStep_canonical ran memories, cpuStep_masksKept ran memories masks⟩)
    fun finished ⟨canonical, masks⟩ =>
      ⟨finishStep_canonical finished canonical, finishStep_masksKept finished canonical masks⟩
  exact {
    legal := (stepKeepsParameters s t stepped).1.symm ▸ legal
    flags := stepKeepsFlagsClean s t flags stepped
    memories := masked.1
    masks := masked.2
    subCounters := step_keeps stepped (cpuStep_subCounters · subCounters) finishStep_subCounters
    banks := step_keeps stepped (cpuStep_banksLegal · banks) finishStep_banksLegal
    eiPending := step_keeps stepped (cpuStep_eiPendingUnused · eiPending) finishStep_eiPendingUnused
    frame := frameKept frame
    display := displayKept }

end

section
/-! PROOFS. What the I/O registers take and give (R35, R39, R42, R44, R49, R76, R77, R380): the stores that are not plain
(O39), and STAT and P1 as read (O40). -/

namespace Sys2Proof.Machine

/-! The registers by their offset. -/

section
variable {s : State} {a : Word} {off : Nat}

theorem busWrite_register (v : Byte) (address : a.toNat = 0xFF00 + off) (h : off < 0x80) :
    busWrite s a v = ioWrite s off v := by
  rw [busWrite_io (by omega) (by omega), address, Nat.add_sub_cancel_left]

theorem busRead_register (address : a.toNat = 0xFF00 + off) (h : off < 0x80) : busRead s a = ioRead s off := by
  rw [busRead_io (by omega) (by omega), address, Nat.add_sub_cancel_left]

theorem address_of_offset (high : 0xFF00 ≤ a.toNat) (h : a.toNat - 0xFF00 = off) : a = BitVec.ofNat 16 (0xFF00 + off) :=
  BitVec.eq_of_toNat_eq (by rw [BitVec.toNat_ofNat]; omega)

/-- A store to a register that no rule singles out stores the byte (R77). -/
theorem ioWrite_plain {v : Byte} (plain : off ∉ [offP1, offDIV, offLCDC, offSTAT, offLY, offDMA, offBOOT]) :
    ioWrite s off v = s.setIo off v := by
  simp only [List.mem_cons, List.not_mem_nil, or_false, not_or] at plain
  obtain ⟨p1, div, lcdc, stat, ly, dma, boot⟩ := plain
  rw [ioWrite, if_neg p1, if_neg div, if_neg lcdc, if_neg stat, if_neg ly, if_neg dma, if_neg boot]

theorem ioRead_plain (p1 : off ≠ offP1) (stat : off ≠ offSTAT) : ioRead s off = Memory.read s.io off := by
  rw [ioRead, if_neg p1, if_neg stat]
  rfl

end

/-! STAT (R42). -/

/-- The parts of STAT do not overlap. -/
theorem stat_bits (stored : Byte) (same : Bool) (code : BitVec 2) :
    let v := 0x80 ||| (stored &&& 0x78) ||| (if same then 0x04 else 0x00) ||| code.setWidth 8
    v.getLsbD 7 = true ∧ (∀ k, 3 ≤ k → k ≤ 6 → v.getLsbD k = stored.getLsbD k) ∧ v.getLsbD 2 = same
      ∧ v.extractLsb' 0 2 = code := by
  refine ⟨by cases same <;> simp, fun k h1 h2 => ?_, by cases same <;> simp, BitVec.eq_of_getLsbD_eq fun k h => ?_⟩
  · interval_cases k <;> cases same <;> simp
  · interval_cases k <;> cases same <;> simp

/-- The mode in STAT's two bits, which read 0 while the display is off. -/
def State.modeBits (s : State) : BitVec 2 := if s.displayOn then (modeCode s.mode).setWidth 2 else 0

theorem statValue_eq (s : State) : s.statValue = 0x80 ||| (s.statStored &&& 0x78)
    ||| (if decide (s.ly = s.lyc) then 0x04 else 0x00) ||| s.modeBits.setWidth 8 := by
  have code : (if s.displayOn then modeCode s.mode else 0) = s.modeBits.setWidth 8 := by
    unfold State.modeBits
    cases s.displayOn <;> cases s.mode <;> rfl
  simp only [State.statValue, code, decide_eq_true_eq]

/-! P1 (R39, R380). -/

/-- A group's nibble as P1 combines it: all ones where the group is not selected. -/
theorem getLsbD_group (selected b0 b1 b2 b3 : Bool) :
    let v := if !selected then 0x0F else pressedNibble b0 b1 b2 b3
    (v.getLsbD 0 = !(selected && b0) ∧ v.getLsbD 1 = !(selected && b1) ∧ v.getLsbD 2 = !(selected && b2)
      ∧ v.getLsbD 3 = !(selected && b3)) ∧ v &&& 0xF0 = 0 := by
  revert selected b0 b1 b2 b3
  decide

/-- Two ones, the select bits, and a low nibble with a one where both groups' nibbles have one. -/
theorem p1_bits (sel directions actions : Byte) (low : directions &&& 0xF0 = 0) :
    let v := 0xC0 ||| (sel &&& 0x30) ||| (directions &&& actions)
    v.getLsbD 7 = true ∧ v.getLsbD 6 = true ∧ v.getLsbD 5 = sel.getLsbD 5 ∧ v.getLsbD 4 = sel.getLsbD 4
      ∧ ∀ k, k < 4 → v.getLsbD k = (directions.getLsbD k && actions.getLsbD k) := by
  have d4 : directions.getLsbD 4 = false := by simpa using congrArg (·.getLsbD 4) low
  have d5 : directions.getLsbD 5 = false := by simpa using congrArg (·.getLsbD 5) low
  simp only [BitVec.getLsbD_or, BitVec.getLsbD_and, d4, d5]
  refine ⟨by simp, by simp, by simp, by simp, fun k h => ?_⟩
  interval_cases k <;> simp

end Sys2Proof.Machine

open Sys2Proof Sys2Proof.Machine

/-- Settles O39: a store to an I/O address is `ioWrite` at its offset, which singles out the registers named. -/
theorem ioRegisterWrites : Obligations.IoRegisterWrites := by
  intro s v
  refine ⟨busWrite_register (off := offDIV) v rfl (by decide), busWrite_register (off := offSTAT) v rfl (by decide),
    busWrite_register (off := offP1) v rfl (by decide), busWrite_register (off := offLY) v rfl (by decide),
    busWrite_register (off := offBOOT) v rfl (by decide), fun a h1 h2 plain => ?_⟩
  rw [busWrite_io h1 h2]
  refine ioWrite_plain fun special => plain ?_
  have listed := List.mem_map_of_mem (f := fun off => BitVec.ofNat 16 (0xFF00 + off)) special
  rwa [← address_of_offset h1 rfl] at listed

/-- Settles O40: STAT and P1 are put together from parts that do not overlap (`stat_bits`, `p1_bits`). -/
theorem composedRegisterReads : Obligations.ComposedRegisterReads := by
  intro s stat p1 dir act
  have statRead : stat = s.statValue := busRead_register (off := offSTAT) rfl (by decide)
  have p1Read : p1 = s.p1Value := busRead_register (off := offP1) rfl (by decide)
  refine ⟨?_, ?_, fun a h1 h2 notP1 notStat => ?_⟩
  · obtain ⟨b7, stored, same, code⟩ := stat_bits s.statStored (decide (s.ly = s.lyc)) s.modeBits
    rw [statRead, statValue_eq]
    exact ⟨b7, stored, same, code.trans (ite_congr rfl (fun _ => by cases s.mode <;> rfl) fun _ => rfl)⟩
  · have select4 : bitOf (Memory.read s.io 0x00) 4 = !dir := (Bool.not_not _).symm
    have select5 : bitOf (Memory.read s.io 0x00) 5 = !act := (Bool.not_not _).symm
    obtain ⟨⟨d0, d1, d2, d3⟩, low⟩ := getLsbD_group dir s.pressed.right s.pressed.left s.pressed.up s.pressed.down
    obtain ⟨⟨a0, a1, a2, a3⟩, -⟩ := getLsbD_group act s.pressed.a s.pressed.b s.pressed.select s.pressed.start
    obtain ⟨b7, b6, b5, b4, nibble⟩ := p1_bits (Memory.read s.io 0x00) _
      (if !act then 0x0F else pressedNibble s.pressed.a s.pressed.b s.pressed.select s.pressed.start) low
    simp only [p1Read, State.p1Value, State.ioByte, offP1, select4, select5, Bool.not_or]
    refine ⟨b7, b6, b5.trans select5, b4.trans select4, ?_, ?_, ?_, ?_⟩
    · rw [nibble 0 (by decide), d0, a0]
    · rw [nibble 1 (by decide), d1, a1]
    · rw [nibble 2 (by decide), d2, a2]
    · rw [nibble 3 (by decide), d3, a3]
  · rw [busRead_io h1 h2]
    exact ioRead_plain (fun p1 => notP1 (address_of_offset h1 p1)) fun stat => notStat (address_of_offset h1 stat)

end

section
/-! PROOFS. The control bits and the fatal record (R27 to R29, R315, R316, R331, R360): who writes them (O30), and the step that
raises Fatal (O29). -/

namespace Sys2Proof.Machine

/-- Each of the eleven illegal bytes raises Fatal with itself (R156, R315). -/
theorem exec_illegalByte {b : Byte} (listed : b ∈ [(0xD3 : Byte), 0xDB, 0xDD, 0xE3, 0xE4, 0xEB, 0xEC, 0xED, 0xF4, 0xFC, 0xFD])
    (n m : Byte) (s : State) : exec (decodeBytes b n m) s = .next (raiseFatal b s) := by
  simp only [List.mem_cons, List.not_mem_nil, or_false] at listed
  rcases listed with rfl | rfl | rfl | rfl | rfl | rfl | rfl | rfl | rfl | rfl | rfl <;> rfl

/-- The wake test leaves a machine running unless it is halted with nothing pending (R366). -/
theorem wake_running {s : State} (h : s.halted = false ∨ s.pending ≠ 0) : (wake s).halted = false := by
  by_cases idle : s.pending = 0
  · rw [wake_idle idle]
    exact h.resolve_right (not_not_intro idle)
  · rw [wake_pending idle]

theorem wake_pc (s : State) : (wake s).pc = s.pc := by rw [wake_only]

theorem step_of_fatal {s : State} {r : FatalRecord} (h : s.fatal = some r) :
    step s = .fault (.fatalDecode r.opcode r.addr) := by
  unfold step machineStep
  rw [h]

end Sys2Proof.Machine

open Sys2Proof Sys2Proof.Machine

/-- Settles O29: the byte fetched raises Fatal, and `afterExec` then restores all but the record. -/
theorem fatalStep : Obligations.FatalStep := by
  refine ⟨?_, fun _ _ => step_of_fatal⟩
  intro s b pending noFatal noFault noDispatch running fetched illegal
  have executed : exec s.fetched (wake s) = .next (raiseFatal b (wake s)) := by
    rw [fetched_eq, fetched]
    exact exec_illegalByte illegal _ _ (wake s)
  rw [step_of_exec noFatal noFault (dispatches_eq_false noDispatch) (wake_running running) executed]
  show Host.Outcome.next { s with fatal := some ⟨b, (wake s).pc⟩ } = _
  rw [wake_pc]

/-- Settles O30: an ordinary instruction writes none of the three (`exec_ordinary`), and the others are read off. -/
theorem controlBitsOwners : Obligations.ControlBitsOwners := by
  intro i s t h
  rcases Instr.control_cases i with ordinary | rfl | ⟨pad, rfl⟩ | rfl | rfl | rfl | ⟨illFormed, illegal⟩
  · obtain ⟨u, next, ime, halted, fatal, -⟩ := exec_ordinary i s ordinary
    obtain rfl := Host.Outcome.next.inj (h.symm.trans next)
    exact ⟨.inl ime, .inl halted, .inl fatal⟩
  · obtain rfl := Host.Outcome.next.inj h
    exact ⟨.inl rfl, .inr ⟨rfl, rfl⟩, .inl rfl⟩
  · cases mode : s.cfg.stopMode with
    | nop2 =>
      obtain rfl := Host.Outcome.next.inj ((exec_stop_nop2 pad mode).symm.trans h)
      exact ⟨.inl rfl, .inl rfl, .inl rfl⟩
    | fatal =>
      obtain rfl := Host.Outcome.next.inj ((exec_stop_fatal pad mode).symm.trans h)
      exact ⟨.inl rfl, .inl rfl, .inr (.inr ⟨pad, rfl⟩)⟩
  · obtain rfl := Host.Outcome.next.inj h
    exact ⟨.inr (.inr ⟨rfl, rfl⟩), .inl rfl, .inl rfl⟩
  · obtain rfl := Host.Outcome.next.inj ((exec_ei_eq s).symm.trans h)
    cases delay : s.cfg.eiDelay with
    | true => exact ⟨.inl rfl, .inl rfl, .inl rfl⟩
    | false => exact ⟨.inr (.inl ⟨rfl, .inl rfl⟩), .inl rfl, .inl rfl⟩
  · obtain rfl := Host.Outcome.next.inj h
    exact ⟨.inr (.inl ⟨rfl, .inr rfl⟩), .inl rfl, .inl rfl⟩
  · obtain ⟨b, next⟩ := illegal s
    obtain rfl := Host.Outcome.next.inj (h.symm.trans next)
    exact ⟨.inl rfl, .inl rfl, .inr (.inl illFormed)⟩

end

section
/-! PROOFS. The reset states (R58, R59, R101, R460 to R462): their values under both profiles (O52), and that they meet the
invariant (O56). -/

namespace Sys2Proof.Machine

/-- The variant of a listed type byte by the ranges of the table of R101, with its registers at reset (R130). -/
theorem cartridgeOfType_ranges {t : Byte} {cart : Cartridge} (h : cartridgeOfType t = some cart) :
    cart = if t.toNat ≤ 0x00 ∨ t.toNat = 0x08 ∨ t.toNat = 0x09 then .noMbc
      else if t.toNat ≤ 0x03 then .mbc1 ⟨false, 1, 0, false⟩
      else if t.toNat ≤ 0x06 then .mbc2 ⟨false, 1⟩
      else if t.toNat ≤ 0x13 then .mbc3 ⟨false, 1, 0⟩
      else .mbc5 ⟨false, 1, 0⟩ := by
  unfold cartridgeOfType at h
  dsimp only at h
  split at h
  · rw [if_pos (by omega)]
    exact (Option.some.inj h).symm
  split at h
  · rw [if_neg (by omega), if_pos (by omega)]
    exact (Option.some.inj h).symm
  split at h
  · rw [if_neg (by omega), if_neg (by omega), if_pos (by omega)]
    exact (Option.some.inj h).symm
  split at h
  · rw [if_neg (by omega), if_neg (by omega), if_neg (by omega), if_pos (by omega)]
    exact (Option.some.inj h).symm
  split at h
  · rw [if_neg (by omega), if_neg (by omega), if_neg (by omega), if_neg (by omega)]
    exact (Option.some.inj h).symm
  · cases h

/-- The I/O bytes of R59. -/
theorem read_postBootIo (k : Nat) : Memory.read postBootIo k =
    if k = 0x0F then 0xE1 else if k = 0x04 then 0xAB else if k = 0x07 then 0xF8 else if k = 0x40 then 0x91
    else if k = 0x47 then 0xFC else if k = 0x50 then 0x01 else 0 := by
  by_cases flag : k = 0x0F
  · subst flag
    rfl
  · show (if k = 0x04 then 0xAB else if k = 0x07 then 0xF8 else if k = 0x0F then 0xE1 else _ : Byte) = _
    rw [if_neg flag, if_neg flag]
    rfl

/-- With no key input Reset answers what power-on does (R462). -/
theorem hostReset_noInput {s : State} (noInput : s.keyInput = []) : hostReset s = powerOn s.cfg := by
  cases on : powerOn s.cfg with
  | next t =>
    obtain ⟨-, cart, -, rfl⟩ := powerOn_next_iff.mp on
    refine hostReset_next_iff.mpr ⟨_, on, ?_⟩
    rw [noInput]
    unfold resetWith
    split <;> rfl
  | fault e => rw [hostReset, on]
  | refused r => exact hostReset_refused on

theorem hostReset_known {s : State} {cart : Cartridge} (nonempty : s.cfg.romLength ≠ 0)
    (selected : cartridgeOfType (headerByte s.cfg 0x147) = some cart) :
    hostReset s = .next { resetWith s.cfg cart with keyInput := s.keyInput } :=
  hostReset_next_iff.mpr ⟨_, powerOn_next_iff.mpr ⟨nonempty, cart, selected, rfl⟩, rfl⟩

/-! The invariant. -/

section
variable {cfg : Config} {cart : Cartridge}

/-- Every variant starts with its banks legal (R130). -/
theorem cartridgeOfType_banksLegal {t : Byte} {s : State} (h : cartridgeOfType t = some s.cart) : BanksLegal s := by
  have started : s.cart = .noMbc ∨ s.cart = .mbc1 mbc1Reset ∨ s.cart = .mbc2 mbc2Reset ∨ s.cart = .mbc3 mbc3Reset
      ∨ s.cart = .mbc5 mbc5Reset := by
    rw [cartridgeOfType_ranges h]
    repeat' split
    · exact .inl rfl
    · exact .inr (.inl rfl)
    · exact .inr (.inr (.inl rfl))
    · exact .inr (.inr (.inr (.inl rfl)))
    · exact .inr (.inr (.inr (.inr rfl)))
  unfold BanksLegal
  rcases started with cart | cart | cart | cart | cart <;> rw [cart] <;> decide

theorem blankFrame_shape {s : State} {colour : BitVec 32} (fb : s.fb = blankFrame colour) (bgidx : s.bgidx = blankIndices) :
    FrameShape s where
  rows := by rw [fb]; exact List.length_replicate
  columns row member := by
    rw [fb] at member
    rw [List.eq_of_mem_replicate member]
    exact List.length_replicate
  indices := by rw [bgidx]; exact List.length_replicate

theorem resetBootRom_invariant (legal : Config.Legal cfg) (selected : cartridgeOfType (headerByte cfg 0x147) = some cart)
    (input : List (Option KeyEvent)) : Invariant { resetBootRom cfg cart with keyInput := input } where
  legal := legal
  flags := show (0 : Byte) &&& 0x0F = 0 by decide
  memories := ⟨legal.ramNonempty, rfl, rfl, rfl, rfl, rfl, legal.ramInitCanonical⟩
  masks := show Memory.read [] 0x41 &&& 0x87 = 0 ∧ Memory.read [] 0x00 &&& 0xCF = 0 by decide
  subCounters := show 0 < 256 ∧ 0 < 1024 by decide
  banks := cartridgeOfType_banksLegal selected
  eiPending _ := rfl
  frame := blankFrame_shape rfl rfl
  display := {
    beforePanic := show 0 < panicTime by decide
    noModelFault := rfl
    off := fun _ => ⟨rfl, rfl, rfl, rfl⟩
    on := fun on => absurd (show bitOf (Memory.read [] 0x40) 7 = true from on) (by decide) }

theorem resetPostBoot_invariant (legal : Config.Legal cfg) (selected : cartridgeOfType (headerByte cfg 0x147) = some cart)
    (input : List (Option KeyEvent)) : Invariant { resetPostBoot cfg cart with keyInput := input } where
  legal := legal
  flags := show (0xB0 : Byte) &&& 0x0F = 0 by decide
  memories := ⟨legal.ramNonempty, rfl, rfl, show Memory.wf ioSize postBootIo = true by decide, rfl, rfl,
    legal.ramInitCanonical⟩
  masks := show Memory.read postBootIo 0x41 &&& 0x87 = 0 ∧ Memory.read postBootIo 0x00 &&& 0xCF = 0 by decide
  subCounters := show 0xCC < 256 ∧ 0 < 1024 by decide
  banks := cartridgeOfType_banksLegal selected
  eiPending _ := rfl
  frame := blankFrame_shape rfl rfl
  display := {
    beforePanic := show 0 < panicTime by decide
    noModelFault := rfl
    off := fun off => absurd (show bitOf (Memory.read postBootIo 0x40) 7 = false from off) (by decide)
    on := fun _ => ⟨⟨80, rfl, show 0 < 80 ∧ 80 ≤ 0 + 456 ∧ 80 < panicTime by decide⟩,
      show (Memory.read postBootIo 0x44).toNat ≤ 143 by decide, Nat.zero_le _⟩ }

theorem resetWith_invariant (legal : Config.Legal cfg) (selected : cartridgeOfType (headerByte cfg 0x147) = some cart)
    (input : List (Option KeyEvent)) : Invariant { resetWith cfg cart with keyInput := input } := by
  unfold resetWith
  split
  · exact resetBootRom_invariant legal selected input
  · exact resetPostBoot_invariant legal selected input

end

theorem Config.initial_legal : Config.Legal Config.initial :=
  ⟨by decide, by decide, by decide, by decide, by decide, by decide, by decide⟩

end Sys2Proof.Machine

open Sys2Proof Sys2Proof.Machine

/-- Settles O52: Reset answers `resetWith`, whose values are those of its definition. -/
theorem resetStates : Obligations.ResetStates := by
  intro s kind known
  have header : kind = (headerByte s.cfg 0x147).toNat :=
    (apply_ite BitVec.toNat (0x147 < s.cfg.romLength) (Memory.read s.cfg.rom 0x147) 0).symm
  obtain ⟨-, -, -, -, -, unlisted⟩ := cartridgeOfType_table (headerByte s.cfg 0x147)
  rw [← header] at unlisted
  refine ⟨rfl, hostReset_noInput rfl, fun empty => hostReset_refused (powerOn_empty empty), fun nonempty unknown => ?_,
    fun nonempty listed => ?_⟩
  · rw [header, BitVec.ofNat_toNat, BitVec.setWidth_eq]
    exact hostReset_refused (powerOn_unknown (Nat.one_le_iff_ne_zero.mp nonempty) (unlisted.mpr unknown))
  · obtain ⟨cart, selected⟩ := Option.ne_none_iff_exists'.mp (mt unlisted.mp (not_not_intro listed))
    have nonempty := Nat.one_le_iff_ne_zero.mp nonempty
    refine ⟨_, _, hostReset_known (s := { s with cfg := { s.cfg with resetProfile := .bootRom } }) nonempty selected,
      hostReset_known (s := { s with cfg := { s.cfg with resetProfile := .postBoot } }) nonempty selected, rfl,
      ⟨rfl, rfl, rfl, rfl, rfl, rfl, rfl, rfl, rfl, rfl, rfl⟩, ⟨rfl, rfl, rfl, rfl, rfl, rfl, rfl, rfl, rfl⟩, ?_, rfl,
      read_postBootIo⟩
    rw [header]
    exact cartridgeOfType_ranges selected

/-- Settles O56: a legal image has a cartridge, and its reset state meets the invariant part by part. -/
theorem resetMeetsInvariant : Obligations.ResetMeetsInvariant := by
  have reset (s : State) (legal : Config.Legal s.cfg) :
      ∃ t, hostReset s = .next t ∧ hostReset t = .next t ∧ Invariant t := by
    obtain ⟨cart, selected⟩ := Option.isSome_iff_exists.mp legal.cartridgeKnown
    have answer := hostReset_known (Nat.one_le_iff_ne_zero.mp legal.romNonempty) selected
    exact ⟨_, answer, hostReset_next_self answer, resetWith_invariant legal selected _⟩
  refine ⟨fun cfg legal => ?_, reset, resetBootRom_invariant Config.initial_legal rfl []⟩
  obtain ⟨t, answer, again, invariant⟩ := reset { State.reset with cfg := cfg } legal
  have on : powerOn cfg = .next t := (hostReset_noInput (s := { State.reset with cfg := cfg }) rfl).symm.trans answer
  obtain ⟨-, cart, -, rfl⟩ := powerOn_next_iff.mp on
  exact ⟨_, on, resetWith_cfg cfg cart, again, invariant⟩

end
